-- ==== Sys2Proof/Word.lean ====
section
/-! DEFINITION. The plain data words of the FL6: bytes and the sets of flags that travel as bits (spec/12_formats.md, 12.1). -/

namespace Sys2Proof

/-- One byte on a line, in a frame, an image or the store device. -/
abbrev Byte := BitVec 8

/-- A day set: bit k is set when day offset k is in the set (12.4, offset 18, width 8). -/
abbrev DaySet := BitVec 64

/-- A zone mask: bit z stands for zone z (12.5, offset 4). -/
abbrev ZoneMask := BitVec 16

/-- The lane set of an EVENT notice: bit n - 1 stands for lane n (12.2, notice bodies). -/
abbrev LaneSet := BitVec 8

end Sys2Proof
end

