-- ==== Sys2Proof/Syntax.lean ====
section
/-! DEFINITION. The commands of the FL6: one constructor of `Instr` per row of spec/opcode_table.json, with the row's
operands. A host request carries its tag and the fields of its body, still coded as the body codes them (12.2, 12.7),
because the owning block tests the codes itself (R189, R211). An event of a lane carries its lane. A change of a sensor
input carries `seen`, the millisecond of the main clock at whose sample the new level was first seen, and `held`, how many
milliseconds the input holds that level from then on (R3, R4; log entry 53). An event of a frame that is discarded carries the
bytes that arrive (R5, R188; log entry 55). -/

namespace Sys2Proof

/-- The six lane units LU1 to LU6 (00_scope.md, 3). -/
inductive LaneNo where
  | lu1 | lu2 | lu3 | lu4 | lu5 | lu6
  deriving DecidableEq, Repr, Inhabited

/-- A pass record as its 48 bytes code it (12.4), before any code is given a meaning. -/
structure RawRecord where
  passId : Nat
  product : Nat
  status : Nat
  /-- presence flags: bit 0 day set, bit 1 last passage, bit 2 usage stamp, bit 3 refund amount -/
  flags : Nat
  ridesCount : Nat
  firstDay : Nat
  ridesDay : Nat
  totalRides : Nat
  price : Nat
  daySet : DaySet
  lastDay : Nat
  lastSec : Nat
  lastBank : Nat
  stampEpoch : Nat
  stampSeq : Nat
  refund : Nat
  deriving DecidableEq, Repr, Inhabited

/-- A product entry as its 16 bytes code it (12.5). -/
structure RawProduct where
  kind : Nat
  span : Nat
  entitled : Nat
  zoneMask : ZoneMask
  rideLimit : Nat
  refundable : Nat
  past : Nat
  fee : Nat
  unit : Nat
  policy : Nat
  deriving DecidableEq, Repr, Inhabited

/-- The body of PASS_MERGE (12.2, code 24). -/
structure RawMerge where
  passId : Nat
  dayCount : Nat
  lastFlag : Nat
  lastDay : Nat
  lastSec : Nat
  lastBank : Nat
  days : List Nat
  deriving DecidableEq, Repr, Inhabited

/-- The body of BANK_CONFIG (R209): `none` where the presence mark of the setting is clear. -/
structure BankPatch where
  bankId : Option Nat := none
  zone : Option Nat := none
  seatCount : Option Nat := none
  source : Option Nat := none
  timerPeriod : Option Nat := none
  haltDetect : Option Nat := none
  passThrough : Option Nat := none
  passingLimit : Option Nat := none
  denyDisplay : Option Nat := none
  waitLimit : Option Nat := none
  lockout : Option Nat := none
  beamStuck : Option Nat := none
  filter : Option Nat := none
  inquiryTimeout : Option Nat := none
  threshold : Option Nat := none
  lossStops : Option Nat := none
  deriving DecidableEq, Repr, Inhabited

/-- The commands. Rows 1 to 34 are the host requests (R210), each with its tag first; the others are the events of the
host line, the lanes, the timers, the store port, the clock, the supply and the settings store. -/
inductive Instr where
  | ident (tag : Nat)
  | status (tag : Nat)
  | flagsTake (tag : Nat)
  | noticeLevels (tag floor : Nat) (pairs : List (Nat × Nat))
  | restart (tag : Nat)
  | bankConfig (tag : Nat) (patch : BankPatch)
  | settingsSave (tag : Nat)
  | productPut (tag code : Nat) (entry : RawProduct)
  | productGet (tag code : Nat)
  | laneMode (tag lane mode : Nat)
  | timeSet (tag day sec : Nat)
  | scheduleSet (tag openSec closeSec lead : Nat)
  | holdBegin (tag cause : Nat)
  | holdEnd (tag : Nat)
  | closureNote (tag day loss : Nat)
  | closureGet (tag day count : Nat)
  | storeRecover (tag : Nat)
  | storeFormat (tag : Nat)
  | linkState (tag link : Nat)
  | inquiryAnswer (tag number verdict : Nat) (record : Option RawRecord)
  | refundQuote (tag pass : Nat)
  | refundCommit (tag pass amount : Nat)
  | passPut (tag : Nat) (record : RawRecord)
  | passMerge (tag : Nat) (merge : RawMerge)
  | passStatus (tag pass status amountFlag amount : Nat)
  | passDrop (tag pass : Nat)
  | passRead (tag pass : Nat)
  | denyAdd (tag pass : Nat)
  | denyRemove (tag pass : Nat)
  | denyClear (tag : Nat)
  | journalRead (tag count : Nat)
  | journalRelease (tag epoch seq : Nat)
  | countsGet (tag scope lane : Nat)
  | countsClear (tag : Nat)
  | dispatchRefusal (kind tag : Nat) (body : List Byte)
  /-- `bytes`: those that arrive, to the last check byte -/
  | frameBadCheck (bytes : List Byte)
  /-- `bytes`: those that arrive before the gap -/
  | frameIdleGap (bytes : List Byte)
  /-- `bytes`: those that arrive, to the second byte of the length -/
  | bodyLengthOver (bytes : List Byte)
  /-- `bytes`: those that arrive before the byte without its stop bit -/
  | stopBitMissing (bytes : List Byte)
  /-- `byStart`: the run of stray bytes is ended by a start byte; otherwise by an idle gap (R188). -/
  | strayRunEnd (byStart : Bool)
  | skipIdleEnd
  | frameSent
  | fieldEnter (lane : LaneNo) (medium : Nat)
  | image (lane : LaneNo) (bytes : List Byte)
  | readFail (lane : LaneNo)
  | fieldLeave (lane : LaneNo)
  | feStatus (lane : LaneNo)
  /-- `bytes`: the whole frame, from its start byte to its check (R5, R210) -/
  | feFrameDiscarded (lane : LaneNo) (bytes : List Byte)
  | feFrameGap (lane : LaneNo)
  | feReadSend (lane : LaneNo)
  | silenceTimerExpiry (lane : LaneNo)
  | entryBeamBreak (lane : LaneNo) (seen held : Nat)
  | entryBeamClear (lane : LaneNo) (seen held : Nat)
  | exitBeamBreak (lane : LaneNo) (seen held : Nat)
  | exitBeamClear (lane : LaneNo) (seen held : Nat)
  | rotationPulse (lane : LaneNo) (seen held : Nat)
  | denyDisplayEnd (lane : LaneNo)
  | grantExpiry (lane : LaneNo)
  | passingLimitExpiry (lane : LaneNo)
  | beamStuckExpiry (lane : LaneNo)
  | chairPulse (seen held : Nat)
  | windowTimerExpiry
  | haltDetectExpiry
  | waitTimerExpiry (lane : LaneNo)
  | inquiryTimeoutExpiry
  | inquiryWaitExpiry (lane : LaneNo)
  | lookupComplete
  | postingReadComplete
  | postingCycleEnd
  | storeOpFailed
  | storeOpTimeout
  | lookupPromotion (lane : LaneNo)
  | mountHeaderRead
  | mountClosureRead
  | recoverHeaderRead
  | formatWriteComplete
  | clockAdvance
  | supplyLoss
  | powerReturn
  | resetAssert
  | resetRelease
  | retainedSupplyLoss
  /-- `epochSaved`, `defaultSaved`: whether the epoch save and the default save of R206 read back valid, after the
  one repetition of R207. Each is read only where R206 makes that save. -/
  | coldStart (epochSaved defaultSaved : Bool)
  /-- `good`: the image written reads back with a valid check (R207). -/
  | settingsWriteDone (good : Bool)
  deriving DecidableEq, Repr, Inhabited

end Sys2Proof
end

