-- ==== Sys2Proof/Machine/Types.lean ====
section
/-! DEFINITION. The named values and the records of the FL6, each a plain inductive or structure. A docstring cites the
rule or table of spec/ that names the value. -/

namespace Sys2Proof.Machine

/-! ### Times, stamps -/

/-- A time as stored: operating day and day second (00_scope.md, 4). Day 0 means the clock is unset. -/
structure Time where
  day : Nat
  sec : Nat
  deriving DecidableEq, Repr, Inhabited

/-- A journal stamp: epoch and sequence (R172). -/
structure Stamp where
  epoch : Nat
  seq : Nat
  deriving DecidableEq, Repr, Inhabited

/-! ### Enumerations (R211) -/

/-- The lane states (R1). -/
inductive LaneState where
  | off | disabled | idle | reading | checking | inquiring | waiting | granted | passing | denied | fault
  deriving DecidableEq, Repr, Inhabited

/-- The lamp colours (R7). -/
inductive Lamp where
  | off | red | amber | green
  deriving DecidableEq, Repr, Inhabited

/-- The 21 denial reasons (chapter 2, table of denial reasons). -/
inductive Reason where
  | clockUnset | badImage | unreadable | closedHours | hold | halted | unknownProduct | revoked | inUse | refunded
  | suspended | notYetValid | expired | exhausted | wrongZone | passback | ridesUsed | unknownPass | notAdmitted
  | waitTimeout | storeFault
  deriving DecidableEq, Repr, Inhabited

/-- The 18 reply statuses (R192). -/
inductive Status where
  | ok | busy | badLength | badField | unknownKind | notFound | inUse | tableFull | listFull | storeFault
  | timeBackward | outOfRange | quoteChanged | notRefundable | alreadyRefunded | stale | late | firstDayLocked
  deriving DecidableEq, Repr, Inhabited

/-- The 14 event classes (R193). -/
inductive EventClass where
  | storeFault | journalFull | clockUnset | settingsLost | laneFault | storeFull | journalHigh | intrusion | halt
  | dayClosed | tailgate | inquiryTimeout | linkError | postingLost
  deriving DecidableEq, Repr, Inhabited

/-- The admission kinds (R1, R50). -/
inductive Admission where
  | storeBacked | provisional
  deriving DecidableEq, Repr, Inhabited

/-- Pass status (R55). -/
inductive PassStatus where
  | active | suspended | refunded
  deriving DecidableEq, Repr, Inhabited

/-- Product kind (R32). -/
inductive ProductKind where
  | unused | consecutive | flex | season
  deriving DecidableEq, Repr, Inhabited

/-- Offline policy of a product (R32, R92). -/
inductive OfflinePolicy where
  | deny | image
  deriving DecidableEq, Repr, Inhabited

/-- Cause of a hold (R123). -/
inductive HoldCause where
  | wind | mechanical | other
  deriving DecidableEq, Repr, Inhabited

/-- Cause of a STOP record (R128). -/
inductive StopCause where
  | halt | hold | power
  deriving DecidableEq, Repr, Inhabited

/-- Schedule state (R122). -/
inductive SchedState where
  | beforeOpen | isOpen | lastCall | closed
  deriving DecidableEq, Repr, Inhabited

/-- Supply state (R202). -/
inductive SupplyState where
  | main | backup
  deriving DecidableEq, Repr, Inhabited

/-- Restart cause (R202, R205). -/
inductive RestartCause where
  | cold | powerReturn | pin | message
  deriving DecidableEq, Repr, Inhabited

/-- Window source (R98, R99). -/
inductive WindowSource where
  | pulse | timer
  deriving DecidableEq, Repr, Inhabited

/-- Sensor filter setting (R3, R209). -/
inductive SensorFilter where
  | none | ms4 | ms16 | ms64
  deriving DecidableEq, Repr, Inhabited

/-- Store state (R57). -/
inductive StoreState where
  | mounting | ready | faulted | formatting
  deriving DecidableEq, Repr, Inhabited

/-- Scheduling mode (R66). -/
inductive StoreMode where
  | lookupFirst | postingFirst
  deriving DecidableEq, Repr, Inhabited

/-- Link state to the central office (R80). -/
inductive LinkState where
  | offline | online
  deriving DecidableEq, Repr, Inhabited

/-- Origin of a lane handed to the inquiry unit (R82). -/
inductive Origin where
  | miss | storeError
  deriving DecidableEq, Repr, Inhabited

/-- Outcome of a PASS_PUT decision with OK (R157). -/
inductive PutOutcome where
  | inserted | merged
  deriving DecidableEq, Repr, Inhabited

/-- Receiver state of the host line (R187). FRAME holds the bytes collected behind the start byte. -/
inductive Receiver where
  | hunt
  | frame (parts : List Byte)
  | skip
  deriving DecidableEq, Repr, Inhabited

/-- The four request slots (R190). -/
inductive SlotNo where
  | s1 | s2 | s3 | s4
  deriving DecidableEq, Repr, Inhabited

/-- The two copies of the settings store (chapter 11, 11.5). -/
inductive Copy where
  | a | b
  deriving DecidableEq, Repr, Inhabited

/-! ### Pass records, products, closure entries -/

/-- A last passage: time and bank ID (R55). -/
structure Passage where
  time : Time
  bank : Nat
  deriving DecidableEq, Repr, Inhabited

/-- A pass record (R55). A slot of the store whose pass ID is 0 is free. -/
structure PassRecord where
  passId : Nat
  product : Nat
  status : PassStatus
  firstDay : Nat
  price : Nat
  daySet : Option DaySet
  ridesDay : Nat
  ridesCount : Nat
  last : Option Passage
  totalRides : Nat
  stamp : Option Stamp
  refund : Option Nat
  deriving DecidableEq, Repr, Inhabited

/-- A product entry (R32). -/
structure ProductEntry where
  kind : ProductKind
  span : Nat
  entitled : Nat
  zoneMask : ZoneMask
  rideLimit : Nat
  refundable : Bool
  past : Nat
  fee : Nat
  unit : Nat
  policy : OfflinePolicy
  deriving DecidableEq, Repr, Inhabited

/-- The UNUSED form of an entry: every other field zero (R32). -/
def ProductEntry.unused : ProductEntry :=
  { kind := .unused, span := 0, entitled := 0, zoneMask := 0, rideLimit := 0, refundable := false, past := 0, fee := 0,
    unit := 0, policy := .deny }

/-- A closure entry (R131). -/
structure ClosureEntry where
  day : Nat
  scheduled : Nat
  lost : Nat
  local_ : Nat
  central : Option Nat
  final : Bool
  unsaved : Bool
  deriving DecidableEq, Repr, Inhabited

/-! ### Settings -/

/-- The bank settings (R209), in the order of the table. -/
structure BankSettings where
  bankId : Nat
  zone : Nat
  seatCount : Nat
  source : WindowSource
  /-- tenths of a second -/
  timerPeriod : Nat
  haltDetect : Nat
  passThrough : Nat
  passingLimit : Nat
  /-- tenths of a second -/
  denyDisplay : Nat
  waitLimit : Nat
  lockout : Nat
  beamStuck : Nat
  filter : SensorFilter
  /-- milliseconds -/
  inquiryTimeout : Nat
  threshold : Nat
  lossStops : Bool
  deriving DecidableEq, Repr, Inhabited

/-- The opening schedule (R118, R121). -/
structure Schedule where
  openSec : Nat
  closeSec : Nat
  lead : Nat
  deriving DecidableEq, Repr, Inhabited

/-- What one settings image carries besides its own marks (chapter 11, 11.5). -/
structure SettingsContent where
  bank : BankSettings
  schedule : Schedule
  products : Vector ProductEntry 64
  epoch : Nat
  deriving DecidableEq, Repr, Inhabited

/-- One settings image: layout number, save count, contents, and whether its check matches (11.5, R206). -/
structure SettingsImage where
  layout : Nat
  saveCount : Nat
  content : SettingsContent
  checkOk : Bool
  deriving DecidableEq, Repr, Inhabited

/-- A write of the settings store that was taken (R207): a full save carries its contents as they stood at the taking
and the slot of its request; an epoch save takes its contents when it begins. -/
inductive SettingsJob where
  | full (slot : SlotNo) (content : SettingsContent)
  | epoch
  deriving DecidableEq, Repr, Inhabited

/-- The write in progress: its job, the copy it writes, the image, and whether it is the repetition (R207). -/
structure SettingsWrite where
  job : SettingsJob
  copy : Copy
  image : SettingsImage
  repeated : Bool
  deriving DecidableEq, Repr, Inhabited

/-! ### Postings, journal records, counters -/

/-- A posting of the posting queue, with the payload of its kind (R64). -/
inductive Posting where
  | usage (pass day : Nat) (time : Time) (bank : Nat) (stamp : Stamp)
  | putInsert (record : PassRecord)
  | putMerge (record : PassRecord)
  | merge (pass : Nat) (days : List Nat) (last : Option Passage)
  | status (pass : Nat) (status : PassStatus) (refund : Option Nat)
  | drop (pass : Nat)
  | refundMark (pass amount : Nat)
  | closure (entry : ClosureEntry)
  deriving DecidableEq, Repr, Inhabited

/-- The change that a SUPPLY record names (R173). -/
inductive SupplyChange where
  | backupEntered
  | running (cause : RestartCause)
  deriving DecidableEq, Repr, Inhabited

/-- The figures of a DAY_CLOSE record (R183). -/
structure DayCloseFigures where
  day : Nat
  scheduled : Nat
  lost : Nat
  local_ : Nat
  passages : Nat
  provisional : Nat
  denials : Nat
  followers : Nat
  intrusions : Nat
  seatsOffered : Nat
  seatsGranted : Nat
  deriving DecidableEq, Repr, Inhabited

/-- The kind and the kind fields of a journal record (R173). `followers` is 0 when `tailgate` is clear. -/
inductive JBody where
  | passage (provisional : Bool) (lane : LaneNo) (pass product day : Nat) (tailgate powerCut : Bool) (followers : Nat)
  | refund (pass amount weight day : Nat)
  | intrusion (lane : LaneNo)
  | stop (start finish : Time) (cause : StopCause)
  | dayClose (figures : DayCloseFigures)
  | postingLost (posting : Posting)
  | supply (change : SupplyChange)
  deriving DecidableEq, Repr, Inhabited

/-- A journal record: stamp, record time, kind and fields (R171). -/
structure JRecord where
  stamp : Stamp
  time : Time
  body : JBody
  deriving DecidableEq, Repr, Inhabited

/-- The counters of one lane (R180). -/
structure LaneCounters where
  passages : Nat
  provisional : Nat
  denials : Vector Nat 21
  tailgates : Nat
  followers : Nat
  intrusions : Nat
  abandoned : Nat
  expiries : Nat
  readFailures : Nat
  deriving DecidableEq, Repr, Inhabited

/-- The day counters, hour bins and window statistics (R181, R114). -/
structure DayCounters where
  passages : Nat
  provisional : Nat
  riders : Nat
  denials : Nat
  followers : Nat
  intrusions : Nat
  bins : Vector Nat 24
  windows : Nat
  seatsOffered : Nat
  seatsGranted : Nat
  endedWaiting : Nat
  waitTimeouts : Nat
  deriving DecidableEq, Repr, Inhabited

/-- The cumulative counters: the nine store statistics (R79) and the records dropped (R175, R182). -/
structure Cumulative where
  lookups : Nat
  cycles : Nat
  forwardingHits : Nat
  postingFirst : Nat
  promotions : Nat
  retries : Nat
  lostPostings : Nat
  usageNoRecord : Nat
  uncertainSkips : Nat
  dropped : Nat
  deriving DecidableEq, Repr, Inhabited

def LaneCounters.zero : LaneCounters :=
  { passages := 0, provisional := 0, denials := Vector.replicate 21 0, tailgates := 0, followers := 0, intrusions := 0,
    abandoned := 0, expiries := 0, readFailures := 0 }

def DayCounters.zero : DayCounters :=
  { passages := 0, provisional := 0, riders := 0, denials := 0, followers := 0, intrusions := 0,
    bins := Vector.replicate 24 0, windows := 0, seatsOffered := 0, seatsGranted := 0, endedWaiting := 0,
    waitTimeouts := 0 }

def Cumulative.zero : Cumulative :=
  { lookups := 0, cycles := 0, forwardingHits := 0, postingFirst := 0, promotions := 0, retries := 0, lostPostings := 0,
    usageNoRecord := 0, uncertainSkips := 0, dropped := 0 }

/-! ### Lanes -/

/-- A timer: `none` while stopped, otherwise the main-clock millisecond at which it expires. -/
abbrev Timer := Option Nat

/-- A grant as the lane records it (R16): window number, grant day, and whether a posting credit is held. A seat and a
journal credit are held with every grant. -/
structure Grant where
  window : Nat
  day : Nat
  postingCredit : Bool
  deriving DecidableEq, Repr, Inhabited

/-- The passage observations (R1, R20). `entered` is the main-clock millisecond of the entry to PASSING, from which the
offsets are measured; `clearAt` is the millisecond at which the exit beam was last accepted clear. -/
structure PassageObs where
  rotationSeen : Bool
  breaks : Nat
  first : Option Nat
  last : Option Nat
  clearAt : Option Nat
  entered : Nat
  deriving DecidableEq, Repr, Inhabited

/-- An input whose rise alone is an event, ROTn or CHAIR (R3, R97): whether its level was accepted high, the main-clock
millisecond at which the pin last fell or will fall, and the one at which the low level from then on is accepted, where no
rise comes before, as the last change of it and the filter settings since say. -/
structure PulseInput where
  high : Bool
  fall : Nat
  low : Nat
  deriving DecidableEq, Repr, Inhabited

/-- One lane context with the lane's timers and inputs (R1, R4, R6). -/
structure Lane where
  state : LaneState
  presentation : Nat
  medium : Option Nat
  mediumPresent : Bool
  readFailures : Nat
  image : Option (List Byte)
  /-- pass ID and product code, as read from the image -/
  pass : Option (Nat × Nat)
  admission : Option Admission
  grant : Option Grant
  obs : Option PassageObs
  lastOffsets : Option (Nat × Nat)
  held : Option Nat
  suppressed : Option Nat
  beamStuck : Bool
  readerSilent : Bool
  disablePending : Bool
  stateTimer : Timer
  beamTimer : Timer
  silenceTimer : Timer
  /-- accepted level of ENTn and EXTn: `true` is broken -/
  entryBroken : Bool
  exitBroken : Bool
  /-- level the pins ENTn and EXTn show: `true` is broken; read only where R4 takes the first sample -/
  entryPin : Bool
  exitPin : Bool
  /-- ROTn -/
  rotation : PulseInput
  /-- READ frames the lane has to send and has not started to send (R6) -/
  readsDue : Nat
  deriving DecidableEq, Repr, Inhabited

/-- Six like things, one for each lane unit. -/
structure Lanes (α : Type) where
  lu1 : α
  lu2 : α
  lu3 : α
  lu4 : α
  lu5 : α
  lu6 : α
  deriving DecidableEq, Repr, Inhabited

/-- Four like things, one for each request slot. -/
structure Slots (α : Type) where
  s1 : α
  s2 : α
  s3 : α
  s4 : α
  deriving DecidableEq, Repr, Inhabited

/-! ### Admission engine -/

/-- The holder of a member of the active pass set (R40). -/
inductive Holder where
  | lane (lane : LaneNo) (presentation : Nat)
  | refund
  deriving DecidableEq, Repr, Inhabited

/-- A member of the active pass set (R40). -/
structure Member where
  pass : Nat
  holder : Holder
  deriving DecidableEq, Repr, Inhabited

/-! ### Pass store controller -/

/-- The requester of a lookup (R58, R62). -/
inductive Requester where
  | lane (lane : LaneNo) (presentation : Nat)
  | service (slot : SlotNo)
  deriving DecidableEq, Repr, Inhabited

/-- An entry of the lookup queue (R62). -/
structure Lookup where
  requester : Requester
  pass : Nat
  urgent : Bool
  queuedAt : Nat
  occupancy : Bool
  deriving DecidableEq, Repr, Inhabited

/-- The result of a lookup as it is handed over (R69): `error` is STORE_ERROR; otherwise the forwarded record, if any,
and the forwarded occupancy of the bucket. -/
inductive LookupResult where
  | error
  | read (record : Option PassRecord) (occupied : Nat)
  deriving DecidableEq, Repr, Inhabited

/-- The writes of a format, in their order (R76). -/
inductive FormatStep where
  | invalidHeader
  | bucket (b : Fin 8192)
  | closureArea
  | validHeader
  deriving DecidableEq, Repr, Inhabited

/-- The operation in flight at the store port (chapter 3, 3.1). A posting cycle is `postingRead` and then
`postingWrite`, or `closureWrite` alone (R59). `mountHeader cold` remembers that a closure read follows (R77). -/
inductive StoreOp where
  | lookupRead (lookup : Lookup)
  | postingRead
  | postingWrite (bucket : Fin 8192) (slot : Fin 4) (record : PassRecord)
  | closureWrite (entry : ClosureEntry)
  | mountHeader (cold : Bool)
  | mountClosure (formatNo : Nat)
  | recoverHeader (slot : SlotNo)
  | format (slot : SlotNo) (step : FormatStep)
  deriving DecidableEq, Repr, Inhabited

/-- An operation with the main-clock millisecond of its issue (R60). -/
structure IssuedOp where
  op : StoreOp
  issued : Nat
  deriving DecidableEq, Repr, Inhabited

/-! ### Inquiry unit -/

/-- The pending inquiry (R80, R83). -/
structure PendingInquiry where
  number : Nat
  lane : LaneNo
  presentation : Nat
  pass : Nat
  image : List Byte
  lanePresent : Bool
  timeout : Timer
  deriving DecidableEq, Repr, Inhabited

/-- An entry of the inquiry wait list (R84). Its origin is always MISS (R82). -/
structure InquiryWait where
  lane : LaneNo
  presentation : Nat
  image : List Byte
  origin : Origin
  timer : Timer
  deriving DecidableEq, Repr, Inhabited

/-- An entry of the provisional list (R93). -/
structure Provisional where
  pass : Nat
  time : Time
  deriving DecidableEq, Repr, Inhabited

/-! ### Seat meter -/

/-- A chair window (R96, R100). -/
structure Window where
  number : Nat
  seats : Nat
  granted : Nat
  counted : Bool
  deriving DecidableEq, Repr, Inhabited

/-- An entry of the waiting list (R96, R101). -/
structure SeatWait where
  lane : LaneNo
  presentation : Nat
  admission : Admission
  pass : Nat
  timer : Timer
  deriving DecidableEq, Repr, Inhabited

/-! ### Day unit, refund unit -/

/-- A hold in force (R118, R123). -/
structure Hold where
  cause : HoldCause
  start : Time
  deriving DecidableEq, Repr, Inhabited

/-- An accrued span [start, finish) of day seconds; `isOpen` while it may still be extended (R118, R126). -/
structure Span where
  start : Nat
  finish : Nat
  isOpen : Bool
  deriving DecidableEq, Repr, Inhabited

/-- The progress of a commit (R138). -/
inductive CommitProgress where
  | credits | lookupQueued | lookupInFlight
  deriving DecidableEq, Repr, Inhabited

/-- The commit in flight (R138). -/
structure Commit where
  slot : SlotNo
  pass : Nat
  amount : Nat
  progress : CommitProgress
  deriving DecidableEq, Repr, Inhabited

/-- The figures of a refund computation (R141 to R148). -/
structure RefundFigures where
  amount : Nat
  weight : Nat
  gross : Nat
  used : Nat
  unusedPast : Nat
  unusedFuture : Nat
  today : Nat
  price : Nat
  kind : ProductKind
  days : Nat
  deriving DecidableEq, Repr, Inhabited

/-- No figures: zero in each figure field (R141). -/
def RefundFigures.zero : RefundFigures :=
  { amount := 0, weight := 0, gross := 0, used := 0, unusedPast := 0, unusedFuture := 0, today := 0, price := 0,
    kind := .unused, days := 0 }

/-! ### Host link -/

/-- The state of the work of a request in its slot, as the owning block keeps it (R190). `replied` stands from the
moment the reply joins the outgoing queue until its last byte has left. `install` remembers the classification of an
INQUIRY_ANSWER whose record is being installed (R89). -/
inductive Progress where
  | taken
  | lookup
  | install (classified : Status)
  | recovering
  | formatting
  | saving
  | replied
  deriving DecidableEq, Repr, Inhabited

/-- An occupied request slot: the request with its kind, tag and body, and its progress (R190). -/
structure Slot where
  request : Instr
  progress : Progress
  deriving DecidableEq, Repr, Inhabited

/-- The straps as sampled (R198, R202): LANES[2:0] as read and RATE[1:0] as read. -/
structure Straps where
  lanes : Nat
  rate : Nat
  deriving DecidableEq, Repr, Inhabited

/-! ### Summaries of the STATUS reply (R197) -/

/-- Lane summary (R1). -/
structure LaneSummary where
  state : LaneState
  lamp : Lamp
  beamStuck : Bool
  readerSilent : Bool
  disablePending : Bool
  lastOffsets : Option (Nat × Nat)
  deriving DecidableEq, Repr, Inhabited

/-- Store summary (R57). -/
structure StoreSummary where
  state : StoreState
  mode : StoreMode
  lookups : Nat
  postings : Nat
  credits : Nat
  uncertain : Bool
  formatNo : Nat
  deriving DecidableEq, Repr, Inhabited

/-- Inquiry summary (R80). -/
structure InquirySummary where
  link : LinkState
  pending : Option (Nat × LaneNo)
  waiting : Nat
  lastEnded : Option Nat
  provisional : Nat
  deriving DecidableEq, Repr, Inhabited

/-- Seat summary (R96). -/
structure SeatSummary where
  source : WindowSource
  window : Option (Nat × Nat × Nat)
  waiting : List LaneNo
  halt : Option Time
  lastPulse : Option Time
  deriving DecidableEq, Repr, Inhabited

/-- Day summary (R118). -/
structure DaySummary where
  clock : Time
  schedule : Schedule
  state : SchedState
  clockUnset : Bool
  hold : Option Hold
  halt : Option Time
  stopped : Bool
  lost : Nat
  scheduled : Nat
  working : Nat
  logEntries : Nat
  unsaved : Nat
  deriving DecidableEq, Repr, Inhabited

/-- Journal summary (R171). -/
structure JournalSummary where
  records : Nat
  credits : Nat
  head : Option Stamp
  newest : Option Stamp
  epoch : Nat
  nextSeq : Nat
  deriving DecidableEq, Repr, Inhabited

/-- Link summary (R197): for each slot the kind and tag of its request (kind 0 for a free slot), the frames in the
outgoing queue, the link error counter, the floor and the line rate. -/
structure LinkSummary where
  slots : Slots (Nat × Nat)
  frames : Nat
  errors : Nat
  floor : Nat
  rate : Nat
  deriving DecidableEq, Repr, Inhabited

/-- Supply summary (R202). -/
structure SupplySummary where
  supply : SupplyState
  cause : RestartCause
  straps : Straps
  deriving DecidableEq, Repr, Inhabited

/-- The STATUS reply (R197), one summary per block in the order of its table. -/
structure StatusReport where
  flags : Vector Bool 14
  lanes : Lanes LaneSummary
  productsUsed : Nat
  members : Nat
  lanesHolding : Lanes Bool
  store : StoreSummary
  inquiry : InquirySummary
  seats : SeatSummary
  day : DaySummary
  commit : Option Nat
  denyEntries : Nat
  journal : JournalSummary
  link : LinkSummary
  supply : SupplySummary
  deriving DecidableEq, Repr, Inhabited

/-- The body of a reply: the status, and the fields its owning rule names (R192). -/
inductive Reply where
  /-- the status and nothing more -/
  | status (status : Status)
  | report (r : StatusReport)
  | ident (straps : Straps) (fitted rate : Nat) (cause : RestartCause)
  | flags (flags : Vector Bool 14)
  | levels (floor : Nat) (levels : Vector Nat 14)
  | bank (settings : BankSettings)
  | saved (count : Nat)
  | product (entry : ProductEntry)
  | lane (state : LaneState)
  | clock (status : Status) (clock : Time)
  | schedule (schedule : Schedule) (state : SchedState)
  /-- HOLD_BEGIN and HOLD_END: the hold, `none` for a HOLD_END that found no hold -/
  | hold (hold : Option Hold)
  | closureNote (entry : ClosureEntry) (effective : Nat) (taken : Bool)
  | closures (entries : List (ClosureEntry × Nat)) (beyond : Nat)
  | recover (status : Status) (state : StoreState) (formatNo : Nat)
  | formatted (formatNo : Nat)
  | link (state : LinkState)
  /-- INQUIRY_ANSWER: the status of R87 and the install outcome of R89, `none` for NONE -/
  | answer (status : Status) (install : Option Status)
  | refund (status : Status) (figures : RefundFigures)
  | committed (figures : RefundFigures) (stamp : Stamp)
  | put (outcome : PutOutcome) (record : PassRecord)
  | locked (record : PassRecord)
  | tableFull (occupied bucket : Nat)
  | merged (taken ignored : Nat) (record : PassRecord)
  | passStatus (state : PassStatus) (amount : Option Nat)
  | passRead (record : PassRecord) (bucket occupied : Nat)
  | notFoundRead (bucket occupied : Nat)
  | denyCount (status : Status) (entries : Nat)
  | denyCleared (entries removed : Nat)
  | journal (records : List JRecord) (inJournal : Nat)
  | released (removed remaining : Nat)
  | laneCounts (clock : Time) (counters : LaneCounters)
  | dayCounts (clock : Time) (counters : DayCounters)
  | cumulative (clock : Time) (counters : Cumulative)
  deriving DecidableEq, Repr, Inhabited

/-- A frame of the outgoing queue (R191). -/
inductive OutFrame where
  /-- a reply from a slot; `kind` is the kind of the request it answers -/
  | reply (slot : SlotNo) (kind tag : Nat) (body : Reply)
  /-- an immediate reply (R189); `kind` is the kind byte it carries -/
  | immediate (kind tag : Nat) (status : Status)
  | inquiry (number lane bank : Nat) (image : List Byte)
  | event (cls : EventClass) (clock : Time) (count : Nat) (lanes : LaneSet)
  | restarted (cause : RestartCause) (epoch : Nat) (flags : Vector Bool 14)
  deriving DecidableEq, Repr, Inhabited

end Sys2Proof.Machine
end

