-- ==== Sys2Proof/Machine/Bytes.lean ====
section
/-! DEFINITION. Bytes: multi-byte fields, least significant byte first (00_scope.md, 4), fields of a layout (12.1), and
the check of R31. -/

namespace Sys2Proof.Machine

/-- A number as `w` bytes, least significant first. -/
def leBytes : Nat → Nat → List Byte
  | 0, _ => []
  | w + 1, n => BitVec.ofNat 8 n :: leBytes w (n / 256)

/-- The number that bytes, least significant first, stand for. -/
def leNat : List Byte → Nat
  | [] => 0
  | b :: bs => b.toNat + 256 * leNat bs

/-- The field of width `w` at an offset of a layout. -/
def field (bs : List Byte) (offset w : Nat) : Nat := leNat ((bs.drop offset).take w)

/-- One place toward the most significant end, with the polynomial's lower terms where a one is shifted out (R31). -/
def crcShift (r : BitVec 16) : BitVec 16 := if r.msb then (r <<< 1) ^^^ 4129#16 else r <<< 1

/-- One byte into the check register (R31). -/
def crcByte (r : BitVec 16) (b : Byte) : BitVec 16 :=
  (List.range 8).foldl (fun r _ => crcShift r) (r ^^^ ((b.zeroExtend 16) <<< 8))

/-- The check of R31 over a run of bytes. -/
def crc (bs : List Byte) : Nat := (bs.foldl crcByte 65535#16).toNat

/-- A set of flags as a number: bit k from member k. -/
def flagBits (fs : List Bool) : Nat := fs.foldr (fun f n => (if f then 1 else 0) + 2 * n) 0

end Sys2Proof.Machine
end

