-- ==== Sys2Proof/Machine/Operands.lean ====
section
/-! DEFINITION. Operand forms: the codes of the enumerations in both directions (R211), access to the tables of lanes
and slots, and the raw records of request bodies and store slots turned into records and back (12.4, 12.5). -/

namespace Sys2Proof.Machine

/-! ### Lanes and slots -/

/-- Lane number 1 to 6. -/
def laneNumber : LaneNo → Nat
  | .lu1 => 1 | .lu2 => 2 | .lu3 => 3 | .lu4 => 4 | .lu5 => 5 | .lu6 => 6

/-- The lane that a number 1 to 6 names. -/
def laneOf : Nat → Option LaneNo
  | 1 => some .lu1 | 2 => some .lu2 | 3 => some .lu3 | 4 => some .lu4 | 5 => some .lu5 | 6 => some .lu6
  | _ => none

/-- The lanes in lane order. -/
def allLanes : List LaneNo := [.lu1, .lu2, .lu3, .lu4, .lu5, .lu6]

def Lanes.get {α : Type} (t : Lanes α) : LaneNo → α
  | .lu1 => t.lu1 | .lu2 => t.lu2 | .lu3 => t.lu3 | .lu4 => t.lu4 | .lu5 => t.lu5 | .lu6 => t.lu6

def Lanes.set {α : Type} (t : Lanes α) (n : LaneNo) (x : α) : Lanes α :=
  match n with
  | .lu1 => { t with lu1 := x }
  | .lu2 => { t with lu2 := x }
  | .lu3 => { t with lu3 := x }
  | .lu4 => { t with lu4 := x }
  | .lu5 => { t with lu5 := x }
  | .lu6 => { t with lu6 := x }

/-- The table that holds `f n` for each lane n. -/
def Lanes.ofFn {α : Type} (f : LaneNo → α) : Lanes α :=
  { lu1 := f .lu1, lu2 := f .lu2, lu3 := f .lu3, lu4 := f .lu4, lu5 := f .lu5, lu6 := f .lu6 }

def Lanes.toList {α : Type} (t : Lanes α) : List α := [t.lu1, t.lu2, t.lu3, t.lu4, t.lu5, t.lu6]

/-- The slots in slot order. -/
def allSlots : List SlotNo := [.s1, .s2, .s3, .s4]

def Slots.get {α : Type} (t : Slots α) : SlotNo → α
  | .s1 => t.s1 | .s2 => t.s2 | .s3 => t.s3 | .s4 => t.s4

def Slots.set {α : Type} (t : Slots α) (k : SlotNo) (x : α) : Slots α :=
  match k with
  | .s1 => { t with s1 := x }
  | .s2 => { t with s2 := x }
  | .s3 => { t with s3 := x }
  | .s4 => { t with s4 := x }

def Slots.toList {α : Type} (t : Slots α) : List α := [t.s1, t.s2, t.s3, t.s4]

/-- A lane as a member of a lane set (12.2). -/
def laneBit (n : LaneNo) : LaneSet := BitVec.ofNat 8 (2 ^ (laneNumber n - 1))

/-! ### Codes (R211) -/

def LaneState.code : LaneState → Nat
  | .off => 0 | .disabled => 1 | .idle => 2 | .reading => 3 | .checking => 4 | .inquiring => 5 | .waiting => 6
  | .granted => 7 | .passing => 8 | .denied => 9 | .fault => 10

def Lamp.code : Lamp → Nat
  | .off => 0 | .red => 1 | .amber => 2 | .green => 3

def Reason.code : Reason → Nat
  | .clockUnset => 0 | .badImage => 1 | .unreadable => 2 | .closedHours => 3 | .hold => 4 | .halted => 5
  | .unknownProduct => 6 | .revoked => 7 | .inUse => 8 | .refunded => 9 | .suspended => 10 | .notYetValid => 11
  | .expired => 12 | .exhausted => 13 | .wrongZone => 14 | .passback => 15 | .ridesUsed => 16 | .unknownPass => 17
  | .notAdmitted => 18 | .waitTimeout => 19 | .storeFault => 20

def Status.code : Status → Nat
  | .ok => 0 | .busy => 1 | .badLength => 2 | .badField => 3 | .unknownKind => 4 | .notFound => 5 | .inUse => 6
  | .tableFull => 7 | .listFull => 8 | .storeFault => 9 | .timeBackward => 10 | .outOfRange => 11 | .quoteChanged => 12
  | .notRefundable => 13 | .alreadyRefunded => 14 | .stale => 15 | .late => 16 | .firstDayLocked => 17

def EventClass.code : EventClass → Nat
  | .storeFault => 0 | .journalFull => 1 | .clockUnset => 2 | .settingsLost => 3 | .laneFault => 4 | .storeFull => 5
  | .journalHigh => 6 | .intrusion => 7 | .halt => 8 | .dayClosed => 9 | .tailgate => 10 | .inquiryTimeout => 11
  | .linkError => 12 | .postingLost => 13

/-- The classes in the order of the class table. -/
def allClasses : List EventClass :=
  [.storeFault, .journalFull, .clockUnset, .settingsLost, .laneFault, .storeFull, .journalHigh, .intrusion, .halt,
   .dayClosed, .tailgate, .inquiryTimeout, .linkError, .postingLost]

def eventClassOf (c : Nat) : Option EventClass := allClasses[c]?

def PassStatus.code : PassStatus → Nat
  | .active => 0 | .suspended => 1 | .refunded => 2

def passStatusOf : Nat → Option PassStatus
  | 0 => some .active | 1 => some .suspended | 2 => some .refunded | _ => none

def ProductKind.code : ProductKind → Nat
  | .unused => 0 | .consecutive => 1 | .flex => 2 | .season => 3

def productKindOf : Nat → Option ProductKind
  | 0 => some .unused | 1 => some .consecutive | 2 => some .flex | 3 => some .season | _ => none

def OfflinePolicy.code : OfflinePolicy → Nat
  | .deny => 0 | .image => 1

def offlinePolicyOf : Nat → Option OfflinePolicy
  | 0 => some .deny | 1 => some .image | _ => none

def HoldCause.code : HoldCause → Nat
  | .wind => 0 | .mechanical => 1 | .other => 2

def holdCauseOf : Nat → Option HoldCause
  | 0 => some .wind | 1 => some .mechanical | 2 => some .other | _ => none

def StopCause.code : StopCause → Nat
  | .halt => 0 | .hold => 1 | .power => 2

def LinkState.code : LinkState → Nat
  | .offline => 0 | .online => 1

def linkStateOf : Nat → Option LinkState
  | 0 => some .offline | 1 => some .online | _ => none

/-- The verdicts of INQUIRY_ANSWER (R87). -/
inductive Verdict where
  | admits | refuse | unreachable
  deriving DecidableEq, Repr

def verdictOf : Nat → Option Verdict
  | 0 => some .admits | 1 => some .refuse | 2 => some .unreachable | _ => none

def StoreState.code : StoreState → Nat
  | .mounting => 0 | .ready => 1 | .faulted => 2 | .formatting => 3

def StoreMode.code : StoreMode → Nat
  | .lookupFirst => 0 | .postingFirst => 1

def SchedState.code : SchedState → Nat
  | .beforeOpen => 0 | .isOpen => 1 | .lastCall => 2 | .closed => 3

def SupplyState.code : SupplyState → Nat
  | .main => 0 | .backup => 1

def RestartCause.code : RestartCause → Nat
  | .cold => 1 | .powerReturn => 2 | .pin => 3 | .message => 4

def WindowSource.code : WindowSource → Nat
  | .pulse => 0 | .timer => 1

def windowSourceOf : Nat → Option WindowSource
  | 0 => some .pulse | 1 => some .timer | _ => none

def SensorFilter.code : SensorFilter → Nat
  | .none => 0 | .ms4 => 1 | .ms16 => 2 | .ms64 => 3

def sensorFilterOf : Nat → Option SensorFilter
  | 0 => some .none | 1 => some .ms4 | 2 => some .ms16 | 3 => some .ms64 | _ => Option.none

def PutOutcome.code : PutOutcome → Nat
  | .inserted => 0 | .merged => 1

def boolCode (b : Bool) : Nat := if b then 1 else 0

/-- A no/yes code: 0 or 1. -/
def boolOf : Nat → Option Bool
  | 0 => some false | 1 => some true | _ => none

/-- Posting kind codes (R211). -/
def Posting.kindCode : Posting → Nat
  | .usage .. => 1 | .putInsert .. => 2 | .putMerge .. => 3 | .merge .. => 4 | .status .. => 5 | .drop .. => 6
  | .refundMark .. => 7 | .closure .. => 8

/-- The pass ID of a posting; none for CLOSURE (R64). -/
def Posting.pass : Posting → Option Nat
  | .usage p .. => some p
  | .putInsert r => some r.passId
  | .putMerge r => some r.passId
  | .merge p .. => some p
  | .status p .. => some p
  | .drop p => some p
  | .refundMark p _ => some p
  | .closure _ => none

/-! ### Day sets -/

def DaySet.has (d : DaySet) (k : Nat) : Bool := d.getLsbD k

/-- The set with offset k added; an offset of 64 or more is no member of any day set. -/
def DaySet.add (d : DaySet) (k : Nat) : DaySet := if k < 64 then d ||| (1#64 <<< k) else d

/-- The offsets of a day set, in ascending order. -/
def DaySet.offsets (d : DaySet) : List Nat := (List.range 64).filter (fun k => DaySet.has d k)

def DaySet.count (d : DaySet) : Nat := (DaySet.offsets d).length

/-! ### Pass records (12.4) -/

/-- Bit k of a byte of presence flags. -/
def flagSet (flags k : Nat) : Bool := flags.testBit k

/-- The record a slot or a body holds. A status code above 2 is taken as SUSPENDED, and a field whose presence flag is
clear is not read (R211). R211 says nothing of the presence-flag bits 4 to 7 of a slot of the store device: that they are ignored, and
written back as 0, is the model's choice (log entry 72). -/
def rawToRecord (r : RawRecord) : PassRecord :=
  { passId := r.passId
    product := r.product
    status := (passStatusOf r.status).getD .suspended
    firstDay := r.firstDay
    price := r.price
    daySet := if flagSet r.flags 0 then some r.daySet else none
    ridesDay := r.ridesDay
    ridesCount := r.ridesCount
    last := if flagSet r.flags 1 then some { time := { day := r.lastDay, sec := r.lastSec }, bank := r.lastBank } else none
    totalRides := r.totalRides
    stamp := if flagSet r.flags 2 then some { epoch := r.stampEpoch, seq := r.stampSeq } else none
    refund := if flagSet r.flags 3 then some r.refund else none }

/-- A record as its slot codes it: an absent field is written as 0 (R211). -/
def PassRecord.toRaw (r : PassRecord) : RawRecord :=
  { passId := r.passId
    product := r.product
    status := r.status.code
    flags := flagBits [r.daySet.isSome, r.last.isSome, r.stamp.isSome, r.refund.isSome]
    ridesCount := r.ridesCount
    firstDay := r.firstDay
    ridesDay := r.ridesDay
    totalRides := r.totalRides
    price := r.price
    daySet := r.daySet.getD 0
    lastDay := (r.last.map (·.time.day)).getD 0
    lastSec := (r.last.map (·.time.sec)).getD 0
    lastBank := (r.last.map (·.bank)).getD 0
    stampEpoch := (r.stamp.map (·.epoch)).getD 0
    stampSeq := (r.stamp.map (·.seq)).getD 0
    refund := r.refund.getD 0 }

/-- The 48 bytes of a raw record (12.4). -/
def rawBytes (r : RawRecord) : List Byte :=
  leBytes 4 r.passId ++ leBytes 1 r.product ++ leBytes 1 r.status ++ leBytes 1 r.flags ++ leBytes 1 r.ridesCount
    ++ leBytes 2 r.firstDay ++ leBytes 2 r.ridesDay ++ leBytes 2 r.totalRides ++ leBytes 4 r.price
    ++ leBytes 8 r.daySet.toNat ++ leBytes 2 r.lastDay ++ leBytes 4 r.lastSec ++ leBytes 1 r.lastBank
    ++ leBytes 2 r.stampEpoch ++ leBytes 4 r.stampSeq ++ leBytes 4 r.refund ++ leBytes 5 0

/-- The raw record that 48 bytes code (12.4). -/
def rawRecordOf (bs : List Byte) : RawRecord :=
  { passId := field bs 0 4
    product := field bs 4 1
    status := field bs 5 1
    flags := field bs 6 1
    ridesCount := field bs 7 1
    firstDay := field bs 8 2
    ridesDay := field bs 10 2
    totalRides := field bs 12 2
    price := field bs 14 4
    daySet := BitVec.ofNat 64 (field bs 18 8)
    lastDay := field bs 26 2
    lastSec := field bs 28 4
    lastBank := field bs 32 1
    stampEpoch := field bs 33 2
    stampSeq := field bs 35 4
    refund := field bs 39 4 }

def PassRecord.bytes (r : PassRecord) : List Byte := rawBytes r.toRaw

def passRecordOf (bs : List Byte) : PassRecord := rawToRecord (rawRecordOf bs)

/-- The field checks of a carried record (R156), with R211's check of the presence-flag bits that name no field. A day
set of 64 bits holds no offset above 63. -/
def rawAccepted (r : RawRecord) : Bool :=
  r.passId != 0 && r.product ≤ 63 && (passStatusOf r.status).isSome && r.flags < 16 && r.price ≤ 2000000
    && r.ridesCount ≤ 255 && r.totalRides ≤ 65535
    && (!flagSet r.flags 1 || (r.lastDay != 0 && r.lastSec < 86400 && r.lastBank != 0))
    && (if flagSet r.flags 3 then r.status == 2 && r.refund ≤ r.price else r.status != 2)

/-! ### Product entries (12.5) -/

/-- The rounding units (R32). -/
def roundingUnits : List Nat := [1, 2, 5, 10, 20, 50, 100]

/-- The span range of a kind (R32). -/
def spanInRange : ProductKind → Nat → Bool
  | .unused, _ => false
  | .consecutive, v => 1 ≤ v && v ≤ 30
  | .flex, v => 1 ≤ v && v ≤ 64
  | .season, v => 1 ≤ v && v ≤ 400

/-- The entry a PRODUCT_PUT stores, or none where a field is refused (R33). The kind UNUSED is accepted unexamined. -/
def productAccepted (e : RawProduct) : Option ProductEntry :=
  match productKindOf e.kind, boolOf e.refundable, offlinePolicyOf e.policy with
  | some .unused, _, _ => some ProductEntry.unused
  | some kind, some refundable, some policy =>
    if spanInRange kind e.span
        && (if kind = .flex then 1 ≤ e.entitled && e.entitled ≤ e.span else e.entitled == 0)
        && e.rideLimit ≤ 255 && !(kind = .season && refundable) && e.past ≤ 1000 && e.fee ≤ 100000
        && roundingUnits.contains e.unit then
      some { kind := kind, span := e.span, entitled := e.entitled, zoneMask := e.zoneMask, rideLimit := e.rideLimit,
             refundable := refundable, past := e.past, fee := e.fee, unit := e.unit, policy := policy }
    else none
  | _, _, _ => none

/-- The 16 bytes of a product entry (12.5). -/
def ProductEntry.bytes (e : ProductEntry) : List Byte :=
  leBytes 1 e.kind.code ++ leBytes 2 e.span ++ leBytes 1 e.entitled ++ leBytes 2 e.zoneMask.toNat
    ++ leBytes 1 e.rideLimit ++ leBytes 1 (boolCode e.refundable) ++ leBytes 2 e.past ++ leBytes 4 e.fee
    ++ leBytes 1 e.unit ++ leBytes 1 e.policy.code

/-- The product entry that 16 bytes of a request body code (12.5). -/
def rawProductOf (bs : List Byte) : RawProduct :=
  { kind := field bs 0 1, span := field bs 1 2, entitled := field bs 3 1, zoneMask := BitVec.ofNat 16 (field bs 4 2),
    rideLimit := field bs 6 1, refundable := field bs 7 1, past := field bs 8 2, fee := field bs 10 4,
    unit := field bs 14 1, policy := field bs 15 1 }

/-! ### Closure entries and the store header (12.5) -/

/-- The 16 bytes of a closure entry. -/
def ClosureEntry.bytes (e : ClosureEntry) : List Byte :=
  leBytes 2 e.day ++ leBytes 4 e.scheduled ++ leBytes 4 e.lost ++ leBytes 2 e.local_ ++ leBytes 2 (e.central.getD 0)
    ++ leBytes 1 (flagBits [e.central.isSome, e.final, e.unsaved]) ++ leBytes 1 0

/-- The closure entry that 16 bytes code; flags bits above bit 2 are ignored (R211). -/
def closureEntryOf (bs : List Byte) : ClosureEntry :=
  { day := field bs 0 2, scheduled := field bs 2 4, lost := field bs 6 4, local_ := field bs 10 2,
    central := if flagSet (field bs 14 1) 0 then some (field bs 12 2) else none
    final := flagSet (field bs 14 1) 1, unsaved := flagSet (field bs 14 1) 2 }

/-- The header fields before the check, for a format number (R53, 12.5). -/
def headerFields (formatNo : Nat) : List Byte :=
  [70, 76, 54, 83] ++ leBytes 1 1 ++ leBytes 2 8192 ++ leBytes 1 4 ++ leBytes 1 48 ++ leBytes 1 96 ++ leBytes 2 formatNo

/-- A valid header: its fields and its check (R53). -/
def headerBytes (formatNo : Nat) : List Byte := headerFields formatNo ++ leBytes 2 (crc (headerFields formatNo))

/-- The format number of a header that is valid (R53), none where it is not. -/
def headerFormatNo (bs : List Byte) : Option Nat :=
  let formatNo := field bs 10 2
  if formatNo ≠ 0 ∧ bs.take 14 = headerBytes formatNo then some formatNo else none

/-! ### Pass image (R30, 12.3) -/

def imageFormat (bs : List Byte) : Nat := field bs 0 1
def imagePass (bs : List Byte) : Nat := field bs 1 4
def imageProduct (bs : List Byte) : Nat := field bs 5 1
def imageFirstDay (bs : List Byte) : Nat := field bs 6 2
def imageIssueDay (bs : List Byte) : Nat := field bs 8 2
def imageCheck (bs : List Byte) : Nat := field bs 30 2

/-- A malformed image (R37). -/
def imageMalformed (bs : List Byte) : Bool :=
  crc (bs.take 30) != imageCheck bs || imageFormat bs != 1 || imagePass bs == 0 || 63 < imageProduct bs

/-! ### Bank settings (R209) -/

/-- A clamped value: below its range the lower end, above it the upper end. -/
def clamp (low high n : Nat) : Nat := if n < low then low else if high < n then high else n

/-- The value a marked setting takes; an unmarked setting keeps its own. -/
def marked {α : Type} (old : α) (f : Nat → α) : Option Nat → α
  | none => old
  | some n => f n

/-- A marked setting of a refused range is in it. -/
def markedIn (ok : Nat → Bool) : Option Nat → Bool
  | none => true
  | some n => ok n

/-- The settings a BANK_CONFIG leaves, or none where a refused setting lies outside its range (R209). -/
def patchBank (p : BankPatch) (b : BankSettings) : Option BankSettings :=
  if markedIn (fun n => 1 ≤ n && n ≤ 255) p.bankId && markedIn (fun n => n ≤ 15) p.zone
      && markedIn (fun n => 1 ≤ n && n ≤ 8) p.seatCount && markedIn (fun n => (windowSourceOf n).isSome) p.source
      && markedIn (fun n => (sensorFilterOf n).isSome) p.filter && markedIn (fun n => n ≤ 1000) p.threshold
      && markedIn (fun n => (boolOf n).isSome) p.lossStops then
    some
      { bankId := marked b.bankId id p.bankId
        zone := marked b.zone id p.zone
        seatCount := marked b.seatCount id p.seatCount
        source := marked b.source (fun n => (windowSourceOf n).getD b.source) p.source
        timerPeriod := marked b.timerPeriod (clamp 20 300) p.timerPeriod
        haltDetect := marked b.haltDetect (clamp 5 120) p.haltDetect
        passThrough := marked b.passThrough (clamp 3 20) p.passThrough
        passingLimit := marked b.passingLimit (clamp 5 30) p.passingLimit
        denyDisplay := marked b.denyDisplay (clamp 5 50) p.denyDisplay
        waitLimit := marked b.waitLimit (clamp 10 120) p.waitLimit
        lockout := marked b.lockout (clamp 0 900) p.lockout
        beamStuck := marked b.beamStuck (clamp 5 60) p.beamStuck
        filter := marked b.filter (fun n => (sensorFilterOf n).getD b.filter) p.filter
        inquiryTimeout := marked b.inquiryTimeout (clamp 500 5000) p.inquiryTimeout
        threshold := marked b.threshold id p.threshold
        lossStops := marked b.lossStops (fun n => (boolOf n).getD b.lossStops) p.lossStops }
  else none

/-! ### Requests: kind and tag (R210) -/

/-- The kind and tag of a request; (0, 0) for a command that is no request. -/
def requestKindTag : Instr → Nat × Nat
  | .ident t => (1, t)
  | .status t => (2, t)
  | .flagsTake t => (3, t)
  | .noticeLevels t _ _ => (4, t)
  | .restart t => (5, t)
  | .bankConfig t _ => (6, t)
  | .settingsSave t => (7, t)
  | .productPut t _ _ => (8, t)
  | .productGet t _ => (9, t)
  | .laneMode t _ _ => (10, t)
  | .timeSet t _ _ => (11, t)
  | .scheduleSet t _ _ _ => (12, t)
  | .holdBegin t _ => (13, t)
  | .holdEnd t => (14, t)
  | .closureNote t _ _ => (15, t)
  | .closureGet t _ _ => (16, t)
  | .storeRecover t => (17, t)
  | .storeFormat t => (18, t)
  | .linkState t _ => (19, t)
  | .inquiryAnswer t _ _ _ => (20, t)
  | .refundQuote t _ => (21, t)
  | .refundCommit t _ _ => (22, t)
  | .passPut t _ => (23, t)
  | .passMerge t _ => (24, t)
  | .passStatus t _ _ _ _ => (25, t)
  | .passDrop t _ => (26, t)
  | .passRead t _ => (27, t)
  | .denyAdd t _ => (28, t)
  | .denyRemove t _ => (29, t)
  | .denyClear t => (30, t)
  | .journalRead t _ => (31, t)
  | .journalRelease t _ _ => (32, t)
  | .countsGet t _ _ => (33, t)
  | .countsClear t => (34, t)
  | .dispatchRefusal _ _ _ | .frameBadCheck _ | .frameIdleGap _ | .bodyLengthOver _ | .stopBitMissing _ | .strayRunEnd _
  | .skipIdleEnd | .frameSent | .fieldEnter _ _ | .image _ _ | .readFail _ | .fieldLeave _ | .feStatus _
  | .feFrameDiscarded _ _ | .feFrameGap _ | .feReadSend _ | .silenceTimerExpiry _ | .entryBeamBreak _ _ _
  | .entryBeamClear _ _ _ | .exitBeamBreak _ _ _ | .exitBeamClear _ _ _ | .rotationPulse _ _ _ | .denyDisplayEnd _
  | .grantExpiry _ | .passingLimitExpiry _ | .beamStuckExpiry _ | .chairPulse _ _ | .windowTimerExpiry
  | .haltDetectExpiry | .waitTimerExpiry _ | .inquiryTimeoutExpiry | .inquiryWaitExpiry _ | .lookupComplete
  | .postingReadComplete | .postingCycleEnd | .storeOpFailed | .storeOpTimeout | .lookupPromotion _ | .mountHeaderRead
  | .mountClosureRead | .recoverHeaderRead | .formatWriteComplete | .clockAdvance | .supplyLoss | .powerReturn
  | .resetAssert | .resetRelease | .retainedSupplyLoss | .coldStart _ _ | .settingsWriteDone _ => (0, 0)

/-! ### Rates and fitted lanes -/

/-- The host line rate that RATE[1:0] gives (R187). -/
def lineRate : Nat → Nat
  | 0 => 115200 | 1 => 230400 | 2 => 460800 | _ => 921600

/-- The fitted lanes that LANES[2:0] gives (R2). -/
def fittedLanes (lanes : Nat) : Nat := if 1 ≤ lanes ∧ lanes ≤ 6 then lanes else 6

end Sys2Proof.Machine
end

