-- ==== Sys2Proof/Decode.lean ====
section
/-! DEFINITION. Reading commands from bits. The opcode table of this block gives its rows no bits, so no word spells a
command (log entry 9). The bodies of the host's request frames do spell requests (R189, R210, 12.2):
`decodeRequest` is dispatch's reading of a frame's kind, tag and body; `decodeFrontEnd` is a lane's reading of a frame of its
front end. -/

namespace Sys2Proof

/-- The command that a word spells by the table's bits: the table gives no bits to any row. -/
def decodeTableWord (_nbits _w : Nat) : Option Instr := none

/-- What dispatch makes of a frame before it looks for a slot (R189). -/
inductive Dispatched where
  | unknownKind
  | badLength
  | request (i : Instr)
  deriving DecidableEq, Repr

/-- The widths of the marked settings, in the order of the table of R209 (12.2). -/
def settingWidths : List Nat := [1, 1, 1, 1, 2, 1, 1, 1, 1, 1, 2, 1, 1, 2, 2, 1]

/-- The length of a BANK_CONFIG body with a presence mark (R210). -/
def bankConfigLength (mark : Nat) : Nat :=
  2 + ((settingWidths.zipIdx).map (fun p => if mark.testBit p.2 then p.1 else 0)).sum

/-- The values of a BANK_CONFIG body: for each setting, its value where its mark is set. -/
def markedValues (mark : Nat) : List (Nat × Nat) → List Byte → List (Option Nat)
  | [], _ => []
  | (w, i) :: rest, bs =>
    if mark.testBit i then some (Machine.leNat (bs.take w)) :: markedValues mark rest (bs.drop w)
    else none :: markedValues mark rest bs

/-- The patch of a BANK_CONFIG body (R209, 12.2). -/
def decodePatch (body : List Byte) : BankPatch :=
  let vs := markedValues (Machine.field body 0 2) settingWidths.zipIdx (body.drop 2)
  let v (i : Nat) : Option Nat := (vs[i]?).getD none
  { bankId := v 0, zone := v 1, seatCount := v 2, source := v 3, timerPeriod := v 4, haltDetect := v 5,
    passThrough := v 6, passingLimit := v 7, denyDisplay := v 8, waitLimit := v 9, lockout := v 10, beamStuck := v 11,
    filter := v 12, inquiryTimeout := v 13, threshold := v 14, lossStops := v 15 }

/-- The fields of `w` bytes that a run of bytes holds, one after another: `n` of them. -/
def fieldsOf (w : Nat) : Nat → List Byte → List Nat
  | 0, _ => []
  | n + 1, bs => Machine.leNat (bs.take w) :: fieldsOf w n (bs.drop w)

/-- The body of PASS_MERGE (12.2): the days are as many as its length holds. -/
def decodeMerge (body : List Byte) : RawMerge :=
  { passId := Machine.field body 0 4, dayCount := Machine.field body 4 1, lastFlag := Machine.field body 5 1,
    lastDay := Machine.field body 6 2, lastSec := Machine.field body 8 4, lastBank := Machine.field body 12 1,
    days := fieldsOf 2 ((body.length - 13) / 2) (body.drop 13) }

/-- A body whose length is the one the kind allows, or BAD_LENGTH. -/
def ofLength (body : List Byte) (n : Nat) (i : Instr) : Dispatched :=
  if body.length = n then .request i else .badLength

/-- Dispatch's tests of kind and length, and the request that the body spells (R189, R210). -/
def decodeRequest (kind tag : Nat) (body : List Byte) : Dispatched :=
  let at_ := Machine.field body
  match kind with
  | 1 => ofLength body 0 (.ident tag)
  | 2 => ofLength body 0 (.status tag)
  | 3 => ofLength body 0 (.flagsTake tag)
  | 4 =>
    if body.length % 2 = 1 ∧ body.length ≤ 29 then
      .request (.noticeLevels tag (at_ 0 1)
        ((List.range (body.length / 2)).map (fun i => (at_ (1 + 2 * i) 1, at_ (2 + 2 * i) 1))))
    else .badLength
  | 5 => ofLength body 0 (.restart tag)
  | 6 =>
    if 2 ≤ body.length ∧ body.length = bankConfigLength (at_ 0 2) then .request (.bankConfig tag (decodePatch body))
    else .badLength
  | 7 => ofLength body 0 (.settingsSave tag)
  | 8 => ofLength body 17 (.productPut tag (at_ 0 1) (Machine.rawProductOf (body.drop 1)))
  | 9 => ofLength body 1 (.productGet tag (at_ 0 1))
  | 10 => ofLength body 2 (.laneMode tag (at_ 0 1) (at_ 1 1))
  | 11 => ofLength body 6 (.timeSet tag (at_ 0 2) (at_ 2 4))
  | 12 => ofLength body 10 (.scheduleSet tag (at_ 0 4) (at_ 4 4) (at_ 8 2))
  | 13 => ofLength body 1 (.holdBegin tag (at_ 0 1))
  | 14 => ofLength body 0 (.holdEnd tag)
  | 15 => ofLength body 4 (.closureNote tag (at_ 0 2) (at_ 2 2))
  | 16 => ofLength body 3 (.closureGet tag (at_ 0 2) (at_ 2 1))
  | 17 => ofLength body 0 (.storeRecover tag)
  | 18 => ofLength body 0 (.storeFormat tag)
  | 19 => ofLength body 1 (.linkState tag (at_ 0 1))
  | 20 =>
    if body.length = 2 then .request (.inquiryAnswer tag (at_ 0 1) (at_ 1 1) none)
    else ofLength body 50 (.inquiryAnswer tag (at_ 0 1) (at_ 1 1) (some (Machine.rawRecordOf (body.drop 2))))
  | 21 => ofLength body 4 (.refundQuote tag (at_ 0 4))
  | 22 => ofLength body 8 (.refundCommit tag (at_ 0 4) (at_ 4 4))
  | 23 => ofLength body 48 (.passPut tag (Machine.rawRecordOf body))
  | 24 =>
    if 13 ≤ body.length ∧ body.length ≤ 45 ∧ body.length % 2 = 1 then .request (.passMerge tag (decodeMerge body))
    else .badLength
  | 25 => ofLength body 10 (.passStatus tag (at_ 0 4) (at_ 4 1) (at_ 5 1) (at_ 6 4))
  | 26 => ofLength body 4 (.passDrop tag (at_ 0 4))
  | 27 => ofLength body 4 (.passRead tag (at_ 0 4))
  | 28 => ofLength body 4 (.denyAdd tag (at_ 0 4))
  | 29 => ofLength body 4 (.denyRemove tag (at_ 0 4))
  | 30 => ofLength body 0 (.denyClear tag)
  | 31 => ofLength body 1 (.journalRead tag (at_ 0 1))
  | 32 => ofLength body 6 (.journalRelease tag (at_ 0 2) (at_ 2 4))
  | 33 => ofLength body 2 (.countsGet tag (at_ 0 1) (at_ 1 1))
  | 34 => ofLength body 0 (.countsClear tag)
  | _ => .unknownKind

/-- The command that a frame of a front end spells by its kind and body (R5, R210, 12.2); none where the frame is discarded
for its kind or its body length. READ, kind 6, goes to the front end. -/
def decodeFrontEnd (lane : LaneNo) (kind : Nat) (body : List Byte) : Option Instr :=
  match kind with
  | 1 => if body.length = 8 then some (.fieldEnter lane (Machine.leNat body)) else none
  | 2 => if body.length = 32 then some (.image lane body) else none
  | 3 => if body.length = 0 then some (.readFail lane) else none
  | 4 => if body.length = 0 then some (.fieldLeave lane) else none
  | 5 => if body.length = 0 then some (.feStatus lane) else none
  | _ => none

end Sys2Proof
end

