-- ==== Sys2Proof/Config.lean ====
section
/-! DEFINITION. What the part fixes: the capacities and fixed times that the rules name, the default settings (R121,
R209), and the FREE VALUES, each an opaque constant with no body, which nothing can evaluate. -/

namespace Sys2Proof.Config
open Sys2Proof.Machine

/-! ### Capacities and fixed times -/

/-- Positions of the posting queue (R64). -/
def postingCapacity : Nat := 32
/-- Queue length at which the mode becomes POSTING_FIRST (R66). -/
def postingFirstAt : Nat := 24
/-- Queue length at which the mode becomes LOOKUP_FIRST (R66). -/
def lookupFirstAt : Nat := 8
/-- Positions of the journal (R171). -/
def journalCapacity : Nat := 1024
/-- Records at which JOURNAL_HIGH is raised (R176). -/
def journalHigh : Nat := 896
/-- The greatest sequence number, and the value at which a counter stays (R172, R179). -/
def max32 : Nat := 4294967295
/-- The greatest operating day and the greatest epoch. -/
def max16 : Nat := 65535
/-- Entries of the deny list (R168). -/
def denyCapacity : Nat := 2048
/-- Entries of the inquiry wait list (R80). -/
def inquiryWaitCapacity : Nat := 5
/-- Entries of the provisional list (R93). -/
def provisionalCapacity : Nat := 64
/-- Entries of the closure log and positions of the closure area (R56, R131). -/
def closureCapacity : Nat := 96
/-- Accrued spans held (R126). -/
def spanCapacity : Nat := 8
/-- Buckets of the pass table (R54). -/
def buckets : Nat := 8192
/-- Immediate replies that may stand in the outgoing queue (R191). -/
def immediateCapacity : Nat := 4
/-- Seconds of a day. -/
def daySeconds : Nat := 86400
/-- The silence timer, 3 s (R5). -/
def silenceMs : Nat := 3000
/-- The body gap, 150 ms (R20). -/
def bodyGapMs : Nat := 150
/-- A store operation fails 50 ms after its issue (R60). -/
def storeTimeoutMs : Nat := 50
/-- A lane lookup becomes URGENT after 200 ms in the queue (R63). -/
def promotionMs : Nat := 200
/-- Room for journal records in a JOURNAL_READ reply: a body of 240 bytes less status, record count and number in the
journal (R177, 12.2). -/
def journalReadBytes : Nat := 236
/-- The part code (R198). -/
def partCode : Nat := 1606
/-- The revision letter B as its 8-bit code (R198). -/
def revision : Nat := 66
/-- Bytes of the store device (12.5). -/
def storeBytes : Nat := 1574464

/-- Where neither settings copy is valid, "either copy may be used" (R207). DESIGN CHOICE (log entry 11): copy A. -/
def spareCopy : Copy := .a

/-! ### Defaults -/

/-- The default bank settings (R209). -/
def defaultBank : BankSettings :=
  { bankId := 1, zone := 0, seatCount := 4, source := .pulse, timerPeriod := 80, haltDetect := 20, passThrough := 8,
    passingLimit := 12, denyDisplay := 15, waitLimit := 45, lockout := 180, beamStuck := 20, filter := .ms16,
    inquiryTimeout := 1500, threshold := 500, lossStops := true }

/-- The default schedule (R121). -/
def defaultSchedule : Schedule := { openSec := 30600, closeSec := 57600, lead := 900 }

/-- Every product entry UNUSED (R32). -/
def noProducts : Vector ProductEntry 64 := Vector.replicate 64 ProductEntry.unused

/-- What a default save writes (R207). -/
def defaultContent : SettingsContent :=
  { bank := defaultBank, schedule := defaultSchedule, products := noProducts, epoch := 1 }

/-- The default notice level of each class, in the order of the class table (R195). -/
def defaultLevels : Vector Nat 14 := #v[1, 1, 1, 1, 2, 2, 2, 3, 3, 4, 5, 5, 6, 2]

/-- The default notice floor (R195). -/
def defaultFloor : Nat := 4

/-! ### Free values -/

/-- Whether a store write that failed, timed out or was in flight at a loss was made all the same (R60, R73: "the write
may have been made"; R53: it completes whole or not at all). Free value, log entry 1. -/
opaque freeWriteMade : Nat → Bool

/-- Whether a settings write broken off leaves the copy it was writing invalid rather than unchanged (R207). Free
value, log entry 2. -/
opaque freeCopySpoilt : Nat → Bool

/-- The save count that follows 4,294,967,295, which R207 does not state. Free value, log entry 3. -/
opaque freeSaveCount : Nat → Nat

/-- Which of two valid copies with equal save counts is the newer, which R206 does not state. Free value, log entry 4. -/
opaque freeNewer : Nat → Copy

/-- The contents an epoch save takes when no image is valid, which R207 does not state. Free value, log entry 5. -/
opaque freeContent : Nat → SettingsContent

/-- The refund amount of a record that the device holds as REFUNDED without one, against R55. Free value, log entry 6. -/
opaque freeRefund : Nat → Nat

end Sys2Proof.Config
end

