-- ==== Sys2Proof/Machine/Formats.lean ====
section
/-! DEFINITION. The byte layouts of what the part writes: journal records (12.6), reply and notice bodies, frames (12.1,
12.2, R210). A reply body gives its fields in the order that the owning rule names them, each at the width of its type
(12.1). An absent field of a reply is written as 0 (R211; log entry 12). -/

namespace Sys2Proof.Machine
open Sys2Proof.Config

def timeBytes (t : Time) : List Byte := leBytes 2 t.day ++ leBytes 4 t.sec

def stampBytes (t : Stamp) : List Byte := leBytes 2 t.epoch ++ leBytes 4 t.seq

/-- An optional time or stamp of a reply. -/
def optTimeBytes (t : Option Time) : List Byte := timeBytes (t.getD { day := 0, sec := 0 })

def optStampBytes (t : Option Stamp) : List Byte := stampBytes (t.getD { epoch := 0, seq := 0 })

/-- A yes or no: one byte, 1 and 0. 12.4 to 12.6 and R211 give it so where they give it; in a reply for which no rule gives a width or a
code it is the model's choice (log entry 76). -/
def flagByte (b : Bool) : List Byte := leBytes 1 (boolCode b)

/-! ### Journal records (12.6) -/

/-- The payload of a posting in a POSTING_LOST record. -/
def Posting.payload : Posting → List Byte
  | .usage _ day time bank stamp => leBytes 2 day ++ timeBytes time ++ leBytes 1 bank ++ stampBytes stamp
  | .putInsert r => r.bytes
  | .putMerge r => r.bytes
  | .merge _ days last =>
    leBytes 1 days.length ++ flagByte last.isSome ++ optTimeBytes (last.map (·.time))
      ++ leBytes 1 ((last.map (·.bank)).getD 0) ++ days.flatMap (leBytes 2)
  | .status _ st refund => leBytes 1 st.code ++ leBytes 4 (refund.getD 0)
  | .drop _ => []
  | .refundMark _ amount => leBytes 4 amount
  | .closure e => e.bytes

/-- The kind code of a record. -/
def JBody.code : JBody → Nat
  | .passage provisional .. => if provisional then 2 else 1
  | .refund .. => 3
  | .intrusion _ => 4
  | .stop .. => 5
  | .dayClose _ => 6
  | .postingLost _ => 7
  | .supply _ => 8

/-- The kind fields of a record. -/
def JBody.fields : JBody → List Byte
  | .passage _ lane pass product day tailgate powerCut followers =>
    leBytes 1 (laneNumber lane) ++ leBytes 4 pass ++ leBytes 1 product ++ leBytes 2 day
      ++ leBytes 1 (flagBits [tailgate, powerCut]) ++ leBytes 1 (if tailgate then followers else 0)
  | .refund pass amount weight day => leBytes 4 pass ++ leBytes 4 amount ++ leBytes 2 weight ++ leBytes 2 day
  | .intrusion lane => leBytes 1 (laneNumber lane)
  | .stop start finish cause => timeBytes start ++ timeBytes finish ++ leBytes 1 cause.code
  | .dayClose f =>
    leBytes 2 f.day ++ leBytes 4 f.scheduled ++ leBytes 4 f.lost ++ leBytes 2 f.local_ ++ leBytes 4 f.passages
      ++ leBytes 4 f.provisional ++ leBytes 4 f.denials ++ leBytes 4 f.followers ++ leBytes 4 f.intrusions
      ++ leBytes 4 f.seatsOffered ++ leBytes 4 f.seatsGranted
  | .postingLost p =>
    leBytes 1 p.kindCode ++ leBytes 4 (p.pass.getD 0) ++ leBytes 1 p.payload.length ++ p.payload
  | .supply .backupEntered => leBytes 1 0 ++ leBytes 1 0
  | .supply (.running cause) => leBytes 1 1 ++ leBytes 1 cause.code

/-- A whole record: the 14-byte header and the kind fields. -/
def JRecord.bytes (r : JRecord) : List Byte :=
  stampBytes r.stamp ++ timeBytes r.time ++ leBytes 1 r.body.code ++ leBytes 1 r.body.fields.length ++ r.body.fields

/-! ### Reply bodies (R192, 12.1) -/

def bankBytes (b : BankSettings) : List Byte :=
  leBytes 1 b.bankId ++ leBytes 1 b.zone ++ leBytes 1 b.seatCount ++ leBytes 1 b.source.code
    ++ leBytes 2 b.timerPeriod ++ leBytes 1 b.haltDetect ++ leBytes 1 b.passThrough ++ leBytes 1 b.passingLimit
    ++ leBytes 1 b.denyDisplay ++ leBytes 1 b.waitLimit ++ leBytes 2 b.lockout ++ leBytes 1 b.beamStuck
    ++ leBytes 1 b.filter.code ++ leBytes 2 b.inquiryTimeout ++ leBytes 2 b.threshold ++ flagByte b.lossStops

def scheduleBytes (s : Schedule) : List Byte := leBytes 4 s.openSec ++ leBytes 4 s.closeSec ++ leBytes 2 s.lead

/-- The cause and the start of a hold, zeros where there is none (R124, R118). In a reply to HOLD_END that finds the hold clear this is
the model's choice (log entry 69). -/
def holdBytes (h : Option Hold) : List Byte :=
  leBytes 1 ((h.map (·.cause.code)).getD 0) ++ optTimeBytes (h.map (·.start))

def closureReplyBytes (e : ClosureEntry × Nat) : List Byte := e.1.bytes ++ leBytes 2 e.2

def figureBytes (f : RefundFigures) : List Byte :=
  leBytes 4 f.amount ++ leBytes 2 f.weight ++ leBytes 4 f.gross ++ leBytes 1 f.used ++ leBytes 1 f.unusedPast
    ++ leBytes 1 f.unusedFuture ++ leBytes 2 f.today ++ leBytes 4 f.price ++ leBytes 1 f.kind.code ++ leBytes 1 f.days

def flagSetBytes (fs : Vector Bool 14) : List Byte := leBytes 2 (flagBits fs.toList)

def laneSummaryBytes (l : LaneSummary) : List Byte :=
  leBytes 1 l.state.code ++ leBytes 1 l.lamp.code ++ leBytes 1 (flagBits [l.beamStuck, l.readerSilent])
    ++ flagByte l.disablePending ++ leBytes 2 ((l.lastOffsets.map (·.1)).getD 0)
    ++ leBytes 2 ((l.lastOffsets.map (·.2)).getD 0)

/-- The STATUS reply after its status byte (R197): the flags and the summaries in the order of the table. That the window number, the
entries of the deny list and the records and credits of the journal take 2 bytes each is the model's choice (log entry 66). R96
names the lanes on the waiting list in list order and no count of them: the one-byte count before them is the model's choice (log
entry 75), and so are the bytes 1 and 0 for disable pending, the uncertain head, a declared HALT and the stopped indicator (log
entry 76). R202 has the supply summary carry the straps and gives them no width: one byte for LANES[2:0] and then one for RATE[1:0] is
the model's choice (log entry 77). -/
def reportBytes (r : StatusReport) : List Byte :=
  flagSetBytes r.flags ++ r.lanes.toList.flatMap laneSummaryBytes
    ++ leBytes 1 r.productsUsed ++ leBytes 1 r.members ++ leBytes 1 (flagBits r.lanesHolding.toList)
    ++ leBytes 1 r.store.state.code ++ leBytes 1 r.store.mode.code ++ leBytes 1 r.store.lookups
    ++ leBytes 1 r.store.postings ++ leBytes 1 r.store.credits ++ flagByte r.store.uncertain
    ++ leBytes 2 r.store.formatNo
    ++ leBytes 1 r.inquiry.link.code ++ leBytes 1 ((r.inquiry.pending.map (·.1)).getD 0)
    ++ leBytes 1 ((r.inquiry.pending.map (fun p => laneNumber p.2)).getD 0) ++ leBytes 1 r.inquiry.waiting
    ++ leBytes 1 (r.inquiry.lastEnded.getD 0) ++ leBytes 1 r.inquiry.provisional
    ++ leBytes 1 r.seats.source.code ++ leBytes 2 ((r.seats.window.map (·.1)).getD 0)
    ++ leBytes 1 ((r.seats.window.map (·.2.1)).getD 0) ++ leBytes 1 ((r.seats.window.map (·.2.2)).getD 0)
    ++ leBytes 1 r.seats.waiting.length ++ r.seats.waiting.flatMap (fun n => leBytes 1 (laneNumber n))
    ++ flagByte r.seats.halt.isSome ++ optTimeBytes r.seats.halt ++ optTimeBytes r.seats.lastPulse
    ++ timeBytes r.day.clock ++ scheduleBytes r.day.schedule ++ leBytes 1 r.day.state.code
    ++ leBytes 1 (flagBits [r.day.clockUnset, r.day.hold.isSome, r.day.halt.isSome]) ++ holdBytes r.day.hold
    ++ optTimeBytes r.day.halt ++ flagByte r.day.stopped ++ leBytes 4 r.day.lost ++ leBytes 4 r.day.scheduled
    ++ leBytes 2 r.day.working ++ leBytes 1 r.day.logEntries ++ leBytes 1 r.day.unsaved
    ++ leBytes 4 (r.commit.getD 0) ++ leBytes 2 r.denyEntries
    ++ leBytes 2 r.journal.records ++ leBytes 2 r.journal.credits ++ optStampBytes r.journal.head
    ++ optStampBytes r.journal.newest ++ leBytes 2 r.journal.epoch ++ leBytes 4 r.journal.nextSeq
    ++ r.link.slots.toList.flatMap (fun p => leBytes 1 p.1 ++ leBytes 1 p.2) ++ leBytes 1 r.link.frames
    ++ leBytes 4 r.link.errors ++ leBytes 1 r.link.floor ++ leBytes 4 r.link.rate
    ++ leBytes 1 r.supply.supply.code ++ leBytes 1 r.supply.cause.code ++ leBytes 1 r.supply.straps.lanes
    ++ leBytes 1 r.supply.straps.rate

def laneCounterBytes (c : LaneCounters) : List Byte :=
  leBytes 4 c.passages ++ leBytes 4 c.provisional ++ c.denials.toList.flatMap (leBytes 4) ++ leBytes 4 c.tailgates
    ++ leBytes 4 c.followers ++ leBytes 4 c.intrusions ++ leBytes 4 c.abandoned ++ leBytes 4 c.expiries
    ++ leBytes 4 c.readFailures

def dayCounterBytes (c : DayCounters) : List Byte :=
  leBytes 4 c.passages ++ leBytes 4 c.provisional ++ leBytes 4 c.riders ++ leBytes 4 c.denials ++ leBytes 4 c.followers
    ++ leBytes 4 c.intrusions ++ c.bins.toList.flatMap (leBytes 4) ++ leBytes 4 c.windows ++ leBytes 4 c.seatsOffered
    ++ leBytes 4 c.seatsGranted ++ leBytes 4 c.endedWaiting ++ leBytes 4 c.waitTimeouts

def cumulativeBytes (c : Cumulative) : List Byte :=
  leBytes 4 c.lookups ++ leBytes 4 c.cycles ++ leBytes 4 c.forwardingHits ++ leBytes 4 c.postingFirst
    ++ leBytes 4 c.promotions ++ leBytes 4 c.retries ++ leBytes 4 c.lostPostings ++ leBytes 4 c.usageNoRecord
    ++ leBytes 4 c.uncertainSkips ++ leBytes 4 c.dropped

/-- The status that a reply begins with (R192). -/
def Reply.statusOf : Reply → Status
  | .status st | .clock st _ | .recover st _ _ | .answer st _ | .refund st _ | .denyCount st _ => st
  | .locked _ => .firstDayLocked
  | .tableFull _ _ => .tableFull
  | .notFoundRead _ _ => .notFound
  | .report _ | .ident .. | .flags _ | .levels .. | .bank _ | .saved _ | .product _ | .lane _ | .schedule .. | .hold _
  | .closureNote .. | .closures .. | .formatted _ | .link _ | .committed .. | .put .. | .merged .. | .passStatus ..
  | .passRead .. | .denyCleared .. | .journal .. | .released .. | .laneCounts .. | .dayCounts .. | .cumulative .. => .ok

/-- The fields of a reply after its status byte (R192, 12.1; log entry 12). The counts of a CLOSURE_GET and of a JOURNAL_READ reply
stand as 12.5 and 12.2 give them. The spec gives no width for a bucket number, nor for the other counts that pass 255: that each takes
2 bytes is the model's choice (log entry 66). These are the bucket number of PASS_READ and TABLE_FULL (R157, R166), the entries and
the number removed of the deny list (R169), and the number removed and remaining of JOURNAL_RELEASE (R178). R134 has the CLOSURE_NOTE
reply say whether the posting was taken or the entry was marked unsaved, and no rule codes it: the byte 1 for taken and 0 for unsaved
is the model's choice (log entry 76). The straps of IDENT, LANES[2:0] and RATE[1:0] as read, have no type in 12.1: one byte for each,
every one before the value it gave, is the model's choice (log entry 77). -/
def Reply.fields : Reply → List Byte
  | .status _ => []
  | .report r => reportBytes r
  | .ident straps fitted rate cause =>
    leBytes 2 partCode ++ leBytes 1 revision ++ leBytes 1 straps.lanes ++ leBytes 1 fitted ++ leBytes 1 straps.rate
      ++ leBytes 4 rate ++ leBytes 1 cause.code
  | .flags fs => flagSetBytes fs
  | .levels floor ls => leBytes 1 floor ++ ls.toList.flatMap (leBytes 1)
  | .bank b => bankBytes b
  | .saved count => leBytes 4 count
  | .product e => e.bytes
  | .lane st => leBytes 1 st.code
  | .clock _ t => timeBytes t
  | .schedule s st => scheduleBytes s ++ leBytes 1 st.code
  | .hold h => holdBytes h
  | .closureNote e effective taken => e.bytes ++ leBytes 2 effective ++ flagByte taken
  | .closures es beyond => leBytes 1 es.length ++ leBytes 2 beyond ++ es.flatMap closureReplyBytes
  | .recover _ st n => leBytes 1 st.code ++ leBytes 2 n
  | .formatted n => leBytes 2 n
  | .link st => leBytes 1 st.code
  | .answer _ install => leBytes 1 ((install.map (·.code)).getD 255)
  | .refund _ f => figureBytes f
  | .committed f stamp => figureBytes f ++ stampBytes stamp
  | .put outcome r => leBytes 1 outcome.code ++ r.bytes
  | .locked r => r.bytes
  | .tableFull occupied bucket => leBytes 1 occupied ++ leBytes 2 bucket
  | .merged taken ignored r => leBytes 1 taken ++ leBytes 1 ignored ++ r.bytes
  | .passStatus st amount => leBytes 1 st.code ++ leBytes 4 (amount.getD 0)
  | .passRead r bucket occupied => r.bytes ++ leBytes 2 bucket ++ leBytes 1 occupied
  | .notFoundRead bucket occupied => leBytes 2 bucket ++ leBytes 1 occupied
  | .denyCount _ n => leBytes 2 n
  | .denyCleared n removed => leBytes 2 n ++ leBytes 2 removed
  | .journal rs n => leBytes 1 rs.length ++ leBytes 2 n ++ rs.flatMap (·.bytes)
  | .released removed remaining => leBytes 2 removed ++ leBytes 2 remaining
  | .laneCounts t c => timeBytes t ++ laneCounterBytes c
  | .dayCounts t c => timeBytes t ++ leBytes 2 t.day ++ dayCounterBytes c
  | .cumulative t c => timeBytes t ++ cumulativeBytes c

/-- The body of a reply (R192). -/
def Reply.bytes (r : Reply) : List Byte := leBytes 1 r.statusOf.code ++ r.fields

/-! ### Frames (12.2) -/

/-- A frame: start byte, body length, kind, tag, body, and the check over all of them but the start byte. -/
def frameBytes (kind tag : Nat) (body : List Byte) : List Byte :=
  let checked := leBytes 2 body.length ++ leBytes 1 kind ++ leBytes 1 tag ++ body
  195 :: (checked ++ leBytes 2 (crc checked))

/-- The kind byte of an outgoing frame (R210). -/
def OutFrame.kindByte : OutFrame → Nat
  | .reply _ kind _ _ => kind + 128
  | .immediate kind _ _ => kind
  | .inquiry .. => 200
  | .event .. => 201
  | .restarted .. => 202

/-- The tag of an outgoing frame: that of the request, 0 for a notice (R192). -/
def OutFrame.tagByte : OutFrame → Nat
  | .reply _ _ tag _ => tag
  | .immediate _ tag _ => tag
  | .inquiry .. | .event .. | .restarted .. => 0

/-- The body of an outgoing frame. -/
def OutFrame.body : OutFrame → List Byte
  | .reply _ _ _ r => r.bytes
  | .immediate _ _ st => leBytes 1 st.code
  | .inquiry number lane bank image => leBytes 1 number ++ leBytes 1 lane ++ leBytes 1 bank ++ image
  | .event cls t count lanes => leBytes 1 cls.code ++ timeBytes t ++ leBytes 1 count ++ leBytes 1 lanes.toNat
  | .restarted cause epoch flags => leBytes 1 cause.code ++ leBytes 2 epoch ++ flagSetBytes flags

/-- The bytes an outgoing frame puts on HTX. -/
def OutFrame.bytes (f : OutFrame) : List Byte := frameBytes f.kindByte f.tagByte f.body

/-- The kind byte of an immediate reply to a request of kind `kind` (R210). -/
def immediateKind (kind : Nat) (st : Status) : Nat := if st = .unknownKind then 255 else kind + 128

/-- The READ frame that a lane sends to its front end (R6, R210). -/
def readFrame : List Byte := frameBytes 6 0 []

end Sys2Proof.Machine
end

