-- ==== Sys2Proof/Machine/State.lean ====
section
/-! DEFINITION. The state of the FL6: every block's state as its chapter gives it, the input pins a rule reads, the
contents of the store device, the queue of waiting commands, and the model's own two fields (the main clock in
milliseconds and the counter of free values). Plain data. `State.reset` is the part right after a cold start that
found no valid settings image (R206). -/

namespace Sys2Proof.Machine
open Sys2Proof.Config

/-- What stops a step. The spec gives every command an effect in every state, and no command names an address outside
the store device (12.5): bucket, slot and closure position are bounded. So there is no fault, and no command raises
one. -/
inductive Fault where
  deriving DecidableEq, Repr

/-- What the model refuses. -/
inductive Refusal where
  /-- Raised by `exec` for a command that has no meaning yet. Safe. No arm of this model answers it. -/
  | notModelled (mnemonic : String)
  deriving DecidableEq, Repr, Inhabited

/-- The store device's bytes: (address, byte) pairs, addresses strictly rising, no byte 0, which is what an unlisted
address reads as (log entry 7). -/
abbrev Memory := List Host.Cell

/-- The admission engine (chapter 2). The product table is kept with the settings working copy (R32, R202). -/
structure AeState where
  /-- active pass set (R40) -/
  members : List Member
  deriving DecidableEq, Repr, Inhabited

/-- The pass store controller (chapter 3). -/
structure PscState where
  state : StoreState
  mode : StoreMode
  lookups : List Lookup
  /-- posting queue, head first (R64); retained -/
  postings : List Posting
  /-- the uncertain mark of the head posting (R73); retained -/
  uncertain : Bool
  /-- posting credits outstanding (R65) -/
  credits : Nat
  /-- the operation in flight -/
  op : Option IssuedOp
  /-- consecutive failures of the operation in hand, 0 or 1 (R60) -/
  failures : Nat
  /-- format number of the mounted header; 0 when none has been mounted since the last restart (R57) -/
  formatNo : Nat
  deriving DecidableEq, Repr, Inhabited

/-- The inquiry unit (R80). -/
structure IquState where
  link : LinkState
  pending : Option PendingInquiry
  waiting : List InquiryWait
  number : Nat
  /-- number and pass ID of the last ended inquiry -/
  lastEnded : Option (Nat × Nat)
  /-- provisional list; retained -/
  provisional : List Provisional
  deriving DecidableEq, Repr, Inhabited

/-- The seat meter (R96). -/
structure SmState where
  window : Option Window
  windowNo : Nat
  waiting : List SeatWait
  windowTimer : Timer
  lastPulse : Option Time
  /-- detection reference; present while detection is armed (R110) -/
  reference : Option Time
  haltTimer : Timer
  /-- declared HALT with its halt start -/
  halt : Option Time
  /-- CHAIR (R97) -/
  chair : PulseInput
  deriving DecidableEq, Repr, Inhabited

/-- The day unit (R118), all retained. The schedule is kept with the settings working copy (R121). -/
structure DuState where
  day : Nat
  sec : Nat
  sched : SchedState
  hold : Option Hold
  /-- halt as reported, with its start -/
  halt : Option Time
  /-- backup stop, with its start -/
  backup : Option Time
  lost : Nat
  spans : List Span
  /-- closure log, in day order -/
  log : List ClosureEntry
  deriving DecidableEq, Repr, Inhabited

/-- The refund unit (R138). -/
structure RuState where
  commit : Option Commit
  deriving DecidableEq, Repr, Inhabited

/-- The list unit (R168): the deny list, ascending; retained. -/
structure LsuState where
  deny : List Nat
  deriving DecidableEq, Repr, Inhabited

/-- The journal and counters (chapter 9). -/
structure JnlState where
  /-- journal, head first (R171); retained -/
  records : List JRecord
  /-- journal credits outstanding (R174) -/
  credits : Nat
  /-- the sequence number the next record takes (R172); retained -/
  nextSeq : Nat
  lanes : Lanes LaneCounters
  day : DayCounters
  cumulative : Cumulative
  deriving DecidableEq, Repr, Inhabited

/-- The host link controller (chapter 10). -/
structure HlcState where
  /-- the link runs: from the link start (R200) to the stop (R201) -/
  running : Bool
  receiver : Receiver
  slots : Slots (Option Slot)
  /-- outgoing queue; its head is the frame that is leaving (R191) -/
  queue : List OutFrame
  /-- event flags; retained -/
  flags : Vector Bool 14
  /-- owed marks; retained -/
  owed : Vector Bool 14
  /-- notice floor and levels; retained -/
  floor : Nat
  levels : Vector Nat 14
  /-- link error counter; retained -/
  errors : Nat
  deriving DecidableEq, Repr, Inhabited

/-- The supply monitor and settings store (chapter 11). -/
structure SpsState where
  supply : SupplyState
  cause : RestartCause
  /-- straps as sampled at the last restart or cold start -/
  straps : Straps
  /-- RESET has been taken and has not returned high (R205) -/
  resetHeld : Bool
  /-- the retained domain is lost; the next power-up is a cold start (R204) -/
  retainedLost : Bool
  /-- settings working copy: bank settings, schedule, product table; retained -/
  bank : BankSettings
  schedule : Schedule
  products : Vector ProductEntry 64
  /-- main-clock millisecond from which the inputs are sampled under the sensor filter setting: that of the last restart,
  or of the BANK_CONFIG that changed the setting (R4, R97) -/
  filterSince : Nat
  /-- main-clock millisecond of the last restart or cold start, at which the inputs are sampled first (R4, R97); the model's
  own (log entry 53) -/
  startedAt : Nat
  /-- current epoch; retained -/
  epoch : Nat
  /-- an epoch advance of a BACKUP episode waits for its save (R172); retained -/
  epochOwed : Bool
  /-- settings store, copy A and copy B (11.5); nonvolatile -/
  copyA : SettingsImage
  copyB : SettingsImage
  /-- the write in progress, and the writes that wait for it (R207) -/
  writing : Option SettingsWrite
  queued : List SettingsJob
  deriving DecidableEq, Repr, Inhabited

/-- The strap pins as they stand; a restart samples them (R2, R187). -/
structure PinsState where
  straps : Straps
  deriving DecidableEq, Repr, Inhabited

/-- The whole machine. -/
structure State where
  lanes : Lanes Lane
  ae : AeState
  psc : PscState
  iqu : IquState
  sm : SmState
  du : DuState
  ru : RuState
  lsu : LsuState
  jnl : JnlState
  hlc : HlcState
  sps : SpsState
  pins : PinsState
  /-- contents of the store device (R53 to R56) -/
  store : Memory
  /-- main clock in milliseconds; the model's own (log entry 8) -/
  ms : Nat
  /-- how many free values have been drawn; the model's own (log entry 1) -/
  drawn : Nat
  /-- commands that wait, first in first out -/
  pending : List Instr
  deriving DecidableEq, Repr, Inhabited

/-- An empty lane context in a state (R1, R29): nothing presented, no fault cause, no timer; both beams clear and
ROTn low. -/
def Lane.empty (st : LaneState) : Lane :=
  { state := st, presentation := 0, medium := none, mediumPresent := false, readFailures := 0, image := none,
    pass := none, admission := none, grant := none, obs := none, lastOffsets := none, held := none,
    suppressed := none, beamStuck := false, readerSilent := false, disablePending := false, stateTimer := none,
    beamTimer := none, silenceTimer := none, entryBroken := false, exitBroken := false, entryPin := false,
    exitPin := false, rotation := { high := false, fall := 0, low := 0 }, readsDue := 0 }

/-- A fitted lane as a restart leaves it with both beams clear: IDLE, its silence timer at 3 s (R29). -/
def Lane.started : Lane := { Lane.empty .idle with silenceTimer := some silenceMs }

/-- An image that is not valid, as a settings store that was never written (log entry 11). -/
def SettingsImage.blank : SettingsImage :=
  { layout := 0, saveCount := 0, content := defaultContent, checkOk := false }

/-- The flags that the cold start of `State.reset` raises: CLOCK_UNSET (code 2) and SETTINGS_LOST (code 3) (R137, R206). -/
def coldFlags : Vector Bool 14 :=
  #v[false, false, true, true, false, false, false, false, false, false, false, false, false, false]

/-- The machine right after a cold start (R206) that found no valid settings image and whose default save succeeded,
with the straps at 0 (six fitted lanes, 115,200 bit/s), every beam clear, ROTn and CHAIR low and the store device as it came (log entries
7, 10, 11). The header read of the mount is in flight (R77), the RESTARTED notice is leaving (R200), and the SUPPLY
record with cause COLD is the one record of the journal (R206). -/
def State.reset : State :=
  { lanes := { lu1 := Lane.started, lu2 := Lane.started, lu3 := Lane.started, lu4 := Lane.started,
               lu5 := Lane.started, lu6 := Lane.started }
    ae := { members := [] }
    psc := { state := .mounting, mode := .lookupFirst, lookups := [], postings := [], uncertain := false, credits := 0,
             op := some { op := .mountHeader true, issued := 0 }, failures := 0, formatNo := 0 }
    iqu := { link := .offline, pending := none, waiting := [], number := 0, lastEnded := none, provisional := [] }
    sm := { window := none, windowNo := 0, waiting := [], windowTimer := none, lastPulse := none, reference := none,
            haltTimer := none, halt := none, chair := { high := false, fall := 0, low := 0 } }
    du := { day := 0, sec := 0, sched := .beforeOpen, hold := none, halt := none, backup := none, lost := 0,
            spans := [], log := [] }
    ru := { commit := none }
    lsu := { deny := [] }
    jnl := { records := [{ stamp := { epoch := 1, seq := 1 }, time := { day := 0, sec := 0 },
                           body := .supply (.running .cold) }]
             credits := 0, nextSeq := 2
             lanes := { lu1 := LaneCounters.zero, lu2 := LaneCounters.zero, lu3 := LaneCounters.zero,
                        lu4 := LaneCounters.zero, lu5 := LaneCounters.zero, lu6 := LaneCounters.zero }
             day := DayCounters.zero, cumulative := Cumulative.zero }
    hlc := { running := true, receiver := .hunt, slots := { s1 := none, s2 := none, s3 := none, s4 := none }
             queue := [.restarted .cold 1 coldFlags], flags := coldFlags, owed := Vector.replicate 14 false
             floor := defaultFloor, levels := defaultLevels, errors := 0 }
    sps := { supply := .main, cause := .cold, straps := { lanes := 0, rate := 0 }, resetHeld := false
             retainedLost := false, bank := defaultBank, schedule := defaultSchedule, products := noProducts
             filterSince := 0, startedAt := 0, epoch := 1, epochOwed := false
             copyA := { layout := 1, saveCount := 1, content := defaultContent, checkOk := true }
             copyB := SettingsImage.blank, writing := none, queued := [] }
    pins := { straps := { lanes := 0, rate := 0 } }
    store := []
    ms := 0
    drawn := 0
    pending := [] }

end Sys2Proof.Machine
end

