-- ==== Sys2Proof/Machine/Ops.lean ====
section
/-! DEFINITION. The named operations on State: one update per block, the clocks, the timers, access to a lane, the bytes
of the store device, and the counters. Laws/State.lean gives their small lemmas. -/

namespace Sys2Proof.Machine
open Sys2Proof.Config

/-- What a command answers. -/
abbrev Result := Host.Outcome State Fault Refusal

/-! ### One update per block -/

def State.withLanes (s : State) (x : Lanes Lane) : State := { s with lanes := x }
def State.withAe (s : State) (x : AeState) : State := { s with ae := x }
def State.withPsc (s : State) (x : PscState) : State := { s with psc := x }
def State.withIqu (s : State) (x : IquState) : State := { s with iqu := x }
def State.withSm (s : State) (x : SmState) : State := { s with sm := x }
def State.withDu (s : State) (x : DuState) : State := { s with du := x }
def State.withRu (s : State) (x : RuState) : State := { s with ru := x }
def State.withLsu (s : State) (x : LsuState) : State := { s with lsu := x }
def State.withJnl (s : State) (x : JnlState) : State := { s with jnl := x }
def State.withHlc (s : State) (x : HlcState) : State := { s with hlc := x }
def State.withSps (s : State) (x : SpsState) : State := { s with sps := x }
def State.withStore (s : State) (x : Memory) : State := { s with store := x }
def State.withMs (s : State) (x : Nat) : State := { s with ms := x }
def State.withDrawn (s : State) (x : Nat) : State := { s with drawn := x }
def State.withPending (s : State) (x : List Instr) : State := { s with pending := x }

/-! ### Lanes -/

def State.lane (s : State) (n : LaneNo) : Lane := s.lanes.get n

def State.setLane (s : State) (n : LaneNo) (l : Lane) : State := s.withLanes (s.lanes.set n l)

/-! ### Clocks and timers -/

/-- The clock as it stands (R118). -/
def State.now (s : State) : Time := { day := s.du.day, sec := s.du.sec }

/-- The main domain runs: main supply is there and RESET is not held (R203, R205). -/
def mainOn (s : State) : Bool :=
  (s.sps.supply == .main) && !s.sps.resetHeld && !s.sps.retainedLost

/-- The main clock has reached millisecond `t`; it never runs back (log entry 8). -/
def State.reach (s : State) (t : Nat) : State := s.withMs (max s.ms t)

/-- The sampling period of a sensor filter setting, in milliseconds (R3). -/
def SensorFilter.period : SensorFilter → Nat
  | .none => 0
  | .ms4 => 4
  | .ms16 => 16
  | .ms64 => 64

/-- When a change of an input is accepted (R3, R4): the input has held the new level for one whole sampling period from the
sample at which it was first seen, or, for a change that a new setting finds still being measured, from the first sample
under it; `none` where it returns before then. With NONE a change is accepted when it is seen. A change that was seen before the
part's first sample, or at it, is no change to the part: it finds the level, or the level has returned (`firstShows`). That a level
which returns at the very millisecond that completes its period has been held for it is the model's choice (log entry 68). The main
clock's milliseconds at which the part starts and at which the setting applies are taken as samples (log entry 53). -/
def State.acceptAt (s : State) (seen held : Nat) : Option Nat :=
  let time := max seen s.sps.filterSince + s.sps.bank.filter.period
  if s.sps.startedAt < seen ∧ time ≤ seen + held then some time else none

/-- The first sample of the part shows a level: the input came to it no later than that sample, and holds it past the sample. The
level is then the accepted one, without filtering and without any event (R4, R97). That a level which returns at the very millisecond
of that sample has returned is the model's choice (log entry 68). -/
def State.firstShows (s : State) (seen held : Nat) : Bool :=
  seen ≤ s.sps.startedAt && s.sps.startedAt < seen + held

/-- When the low level of an input that falls is accepted (R3, R4), where it does not rise again before. -/
def State.lowFrom (s : State) (fall : Nat) : Nat := max fall s.sps.filterSince + s.sps.bank.filter.period

/-- The accepted level of the input at a sample. -/
def PulseInput.highAt (x : PulseInput) (sample : Nat) : Bool := x.high && sample < x.low

/-- A pulse on an input whose rise alone is an event (R3): the accepted level while it lasts, and the time of its accepted
rise. Where the level is still accepted high, or the first sample shows it high, the pulse is no rise. -/
def State.pulse (s : State) (x : PulseInput) (seen held : Nat) : Bool × Option Nat :=
  if x.highAt seen || s.firstShows seen held then (true, none) else ((s.acceptAt seen held).isSome, s.acceptAt seen held)

/-- The input after such a pulse. -/
def State.afterPulse (s : State) (x : PulseInput) (seen held : Nat) : PulseInput :=
  { high := (s.pulse x seen held).1, fall := seen + held, low := s.lowFrom (seen + held) }

/-- When a fall is accepted that a sample finds being measured, under the sampling period from then on (R4). -/
def PulseInput.lowUnder (x : PulseInput) (ms period : Nat) : Nat := max x.fall ms + period

/-- An input at its first sample, taken without filtering and without any event (R4, R97). -/
def PulseInput.firstSample (x : PulseInput) (ms period : Nat) : PulseInput :=
  { x with high := ms < x.fall, low := x.lowUnder ms period }

/-- An input at a new sensor filter setting (R4, R97, R115): a fall still being measured is measured again under the new
period; one already accepted is not. -/
def PulseInput.refilter (x : PulseInput) (ms period : Nat) : PulseInput :=
  { x with low := if x.low ≤ ms then x.low else x.lowUnder ms period }

/-- The day second of a time before or after another: earlier by day, then by second (R120, R159). -/
def Time.before (a b : Time) : Bool := a.day < b.day || (a.day == b.day && a.sec < b.sec)

/-- Seconds from `a` to `b`, a negative age being taken as 0 (R47, R93). -/
def secondsSince (a b : Time) : Nat := (b.day * daySeconds + b.sec) - (a.day * daySeconds + a.sec)

/-- A counter of 32 bits that stays at its greatest value (R179). -/
def addSat (n d : Nat) : Nat := min max32 (n + d)

/-! ### The store device's bytes -/

/-- The byte at an address; an unlisted address reads as 0 (log entry 7). -/
def Memory.read : Memory → Nat → Byte
  | [], _ => 0
  | (k, b) :: rest, a => if k = a then b else Memory.read rest a

/-- A byte written at an address: the list stays in its canonical form, and writing 0 removes the entry. -/
def Memory.write : Memory → Nat → Byte → Memory
  | [], a, b => if b = 0 then [] else [(a, b)]
  | (k, c) :: rest, a, b =>
    if a < k then (if b = 0 then (k, c) :: rest else (a, b) :: (k, c) :: rest)
    else if a = k then (if b = 0 then rest else (a, b) :: rest)
    else (k, c) :: Memory.write rest a b

/-- The canonical form: addresses strictly rising from `low` on, and no byte 0. -/
def Memory.wfFrom : Nat → Memory → Bool
  | _, [] => true
  | low, (k, b) :: rest => low ≤ k && b != 0 && Memory.wfFrom (k + 1) rest

def Memory.wf (m : Memory) : Bool := Memory.wfFrom 0 m

/-- `n` bytes from an address on. -/
def Memory.readBytes (m : Memory) (a : Nat) : Nat → List Byte
  | 0 => []
  | n + 1 => Memory.read m a :: Memory.readBytes m (a + 1) n

/-- Bytes written from an address on. -/
def Memory.writeBytes (m : Memory) (a : Nat) : List Byte → Memory
  | [] => m
  | b :: bs => Memory.writeBytes (Memory.write m a b) (a + 1) bs

/-- `n` zero bytes written from an address on. -/
def Memory.clear (m : Memory) (a n : Nat) : Memory := m.filter (fun c => c.1 < a || a + n ≤ c.1)

/-- Address of slot `k` of bucket `b` (12.5). -/
def slotAddress (b k : Nat) : Nat := 64 + (4 * b + k) * 48

/-- Address of closure position `p` (12.5). -/
def closureAddress (p : Nat) : Nat := 1572928 + 16 * p

/-! ### Counters (R179 to R182) -/

/-- A change of one lane's counters. -/
def countLane (n : LaneNo) (f : LaneCounters → LaneCounters) (s : State) : State :=
  s.withJnl { s.jnl with lanes := s.jnl.lanes.set n (f (s.jnl.lanes.get n)) }

/-- A change of the day counters. -/
def countDay (f : DayCounters → DayCounters) (s : State) : State :=
  s.withJnl { s.jnl with day := f s.jnl.day }

/-- A change of the cumulative counters. -/
def countCumulative (f : Cumulative → Cumulative) (s : State) : State :=
  s.withJnl { s.jnl with cumulative := f s.jnl.cumulative }

/-- `n` riders at the clock: the riders counter and the hour bin of the clock rise together (R181). -/
def countRiders (n : Nat) (s : State) : State :=
  let h := s.du.sec / 3600
  countDay (fun c => { c with riders := addSat c.riders n
                              bins := c.bins.setIfInBounds h (addSat (c.bins.getD h 0) n) }) s

/-! ### Free values -/

/-- The machine has used one free value; the next one is another (log entry 1). -/
def State.draw (s : State) : State := s.withDrawn (s.drawn + 1)

end Sys2Proof.Machine
end

