-- ==== Sys2Proof/Machine/Flags.lean ====
section
/-! DEFINITION. Event flags and notices, the outgoing queue, replies, and the request slots (chapter 10). The head of
the outgoing queue is the frame that is leaving: a frame that joins an empty queue begins to leave at once (R191; log
entry 13). -/

namespace Sys2Proof.Machine
open Sys2Proof.Config

/-! ### The outgoing queue -/

def State.withQueue (s : State) (q : List OutFrame) : State := s.withHlc { s.hlc with queue := q }

/-- A frame joins the outgoing queue (R191). -/
def sendFrame (f : OutFrame) (s : State) : State := s.withQueue (s.hlc.queue ++ [f])

/-- The queue with the waiting notice of the class standing for one more raise, where there is one (R194). -/
def coalesce (cls : EventClass) (lanes : LaneSet) : List OutFrame → Option (List OutFrame)
  | [] => none
  | .event c t n ls :: rest =>
    if c = cls then some (.event c t (min 255 (n + 1)) (ls ||| lanes) :: rest)
    else (coalesce cls lanes rest).map (.event c t n ls :: ·)
  | f :: rest => (coalesce cls lanes rest).map (f :: ·)

/-- A raise with its notice due while the link runs: it joins the waiting notice of its class, one that has not begun
to leave, or queues a new notice (R194). -/
def queueEvent (cls : EventClass) (lanes : LaneSet) (s : State) : State :=
  let fresh : OutFrame := .event cls s.now 1 lanes
  match s.hlc.queue with
  | [] => sendFrame fresh s
  | head :: rest =>
    match coalesce cls lanes rest with
    | some rest' => s.withQueue (head :: rest')
    | none => sendFrame fresh s

/-! ### Raising an event class (R193) -/

def State.setFlag (s : State) (cls : EventClass) : State :=
  s.withHlc { s.hlc with flags := s.hlc.flags.setIfInBounds cls.code true }

def State.setOwed (s : State) (cls : EventClass) : State :=
  s.withHlc { s.hlc with owed := s.hlc.owed.setIfInBounds cls.code true }

/-- The level of a class. -/
def State.level (s : State) (cls : EventClass) : Nat := s.hlc.levels.getD cls.code 7

/-- A notice is due: the level is not 7 and lies below the floor (R193). -/
def noticeDue (s : State) (cls : EventClass) : Bool := s.level cls != 7 && s.level cls < s.hlc.floor

/-- A raise of a class by a lane set: the flag, then the notice or the owed mark (R193). -/
def raiseBy (cls : EventClass) (lanes : LaneSet) (s : State) : State :=
  let s := s.setFlag cls
  if noticeDue s cls then (if s.hlc.running then queueEvent cls lanes s else s.setOwed cls) else s

/-- A raise that names no lane. -/
def raise (cls : EventClass) (s : State) : State := raiseBy cls 0 s

/-- A raise by one lane; LANE_FAULT, INTRUSION and TAILGATE alone carry lanes (R194). -/
def raiseLane (cls : EventClass) (n : LaneNo) (s : State) : State := raiseBy cls (laneBit n) s

/-! ### Link errors and replies -/

/-- A link error (R188). -/
def linkError (s : State) : State :=
  raise .linkError (s.withHlc { s.hlc with errors := addSat s.hlc.errors 1 })

def OutFrame.isImmediate : OutFrame → Bool
  | .immediate .. => true
  | .reply .. | .inquiry .. | .event .. | .restarted .. => false

/-- An immediate reply to a request of a kind and tag (R189); with four standing, one that has begun to leave among them (the model's
choice, log entry 71), it is not queued and a link error is
counted (R191). -/
def immediateReply (kind tag : Nat) (st : Status) (s : State) : State :=
  if (s.hlc.queue.filter OutFrame.isImmediate).length < immediateCapacity then
    sendFrame (.immediate (immediateKind kind st) tag st) s
  else linkError s

def State.setSlot (s : State) (k : SlotNo) (x : Option Slot) : State :=
  s.withHlc { s.hlc with slots := s.hlc.slots.set k x }

/-- The reply of the request in a slot joins the outgoing queue (R192). -/
def reply (k : SlotNo) (r : Reply) (s : State) : State :=
  match s.hlc.slots.get k with
  | none => s
  | some slot =>
    let kt := requestKindTag slot.request
    sendFrame (.reply k kt.1 kt.2 r) (s.setSlot k (some { slot with progress := .replied }))

/-- A reply that carries its status and nothing more. -/
def refuse (k : SlotNo) (st : Status) (s : State) : State := reply k (.status st) s

def setProgress (k : SlotNo) (p : Progress) (s : State) : State :=
  match s.hlc.slots.get k with
  | none => s
  | some slot => s.setSlot k (some { slot with progress := p })

/-! ### Taking a request (R189, R190) -/

/-- A free request slot: the lowest-numbered (log entry 14). -/
def freeSlot (s : State) : Option SlotNo := allSlots.find? (fun k => (s.hlc.slots.get k).isNone)

/-- The receiver takes bytes: the main domain runs and the link has started (R200, R201). -/
def hostListens (s : State) : Bool := mainOn s && s.hlc.running

/-- The receiver stands where a frame begins: in HUNT, or behind a start byte that ended a run of stray bytes (R187,
R188). -/
def Receiver.atFrameStart : Receiver → Bool
  | .hunt | .frame [] => true
  | .frame (_ :: _) | .skip => false

/-- A complete frame with a good check can arrive (R187). -/
def hostHears (s : State) : Bool := hostListens s && s.hlc.receiver.atFrameStart

/-- A request that passed dispatch's tests of kind and length: into a free slot and to its owner, or BUSY at once
(R189). The receiver is in HUNT after the complete frame (R187). -/
def takeRequest (i : Instr) (owner : SlotNo → State → State) (s : State) : State :=
  if hostHears s then
    let s := s.withHlc { s.hlc with receiver := .hunt }
    match freeSlot s with
    | none => immediateReply (requestKindTag i).1 (requestKindTag i).2 .busy s
    | some k => owner k (s.setSlot k (some { request := i, progress := .taken }))
  else s

end Sys2Proof.Machine
end

