-- ==== Sys2Proof/Machine/Settings.lean ====
section
/-! DEFINITION. The settings store (11.5): which copy is the newer valid image, the writes of R207 and what each leaves.
A write in progress has its image ready; SETTINGS_WRITE_DONE says whether it reads back valid. -/

namespace Sys2Proof.Machine
open Sys2Proof.Config

/-- An image is valid when its layout number is 1, its save count is not 0 and its check matches (R206). -/
def SettingsImage.valid (i : SettingsImage) : Bool := i.layout == 1 && i.saveCount != 0 && i.checkOk

def SpsState.copy (x : SpsState) : Copy → SettingsImage
  | .a => x.copyA
  | .b => x.copyB

def SpsState.setCopy (x : SpsState) (c : Copy) (i : SettingsImage) : SpsState :=
  match c with
  | .a => { x with copyA := i }
  | .b => { x with copyB := i }

def Copy.other : Copy → Copy
  | .a => .b
  | .b => .a

/-- The copy that holds the newer valid image (R206); on equal save counts a free value says which (log entry 4). -/
def SpsState.newer (x : SpsState) : Option Copy :=
  match x.copyA.valid, x.copyB.valid with
  | false, false => none
  | true, false => some .a
  | false, true => some .b
  | true, true =>
    if x.copyB.saveCount < x.copyA.saveCount then some .a
    else if x.copyA.saveCount < x.copyB.saveCount then some .b
    else some (freeNewer x.copyA.saveCount)

/-- The copy a write goes into: the one that is not the newer valid image (R207). -/
def SpsState.target (x : SpsState) : Copy :=
  match x.newer with
  | some c => c.other
  | none => spareCopy

/-- The save count a write takes: that of the newer valid image plus one, or 1 (R207; log entry 3). -/
def SpsState.nextSaveCount (x : SpsState) : Nat :=
  match x.newer with
  | none => 1
  | some c =>
    let n := (x.copy c).saveCount
    if n < max32 then n + 1 else 1 + freeSaveCount n % max32

/-- What a full save takes: the working copy and the current epoch as they stand (R207, R208). -/
def SpsState.workingContent (x : SpsState) : SettingsContent :=
  { bank := x.bank, schedule := x.schedule, products := x.products, epoch := x.epoch }

/-- What an epoch save takes: the contents of the newer valid image and the current epoch (R207; log entry 5). -/
def SpsState.epochContent (x : SpsState) : SettingsContent :=
  match x.newer with
  | some c => { (x.copy c).content with epoch := x.epoch }
  | none => { freeContent x.epoch with epoch := x.epoch }

/-- The image that a save with some contents writes. -/
def SpsState.imageFor (x : SpsState) (content : SettingsContent) : SettingsImage :=
  { layout := 1, saveCount := x.nextSaveCount, content := content, checkOk := true }

/-- The write of a job begins (R207). -/
def SpsState.begin (x : SpsState) (job : SettingsJob) : SpsState :=
  let content := match job with
    | .full _ c => c
    | .epoch => x.epochContent
  { x with writing := some { job := job, copy := x.target, image := x.imageFor content, repeated := false } }

/-- The next write that was taken begins, when none is in progress (R207). -/
def SpsState.startNext (x : SpsState) : SpsState :=
  match x.writing, x.queued with
  | none, job :: rest => { x with queued := rest }.begin job
  | _, _ => x

/-- A write is taken: it begins, or waits for those taken before it (R207). -/
def takeJob (job : SettingsJob) (s : State) : State :=
  s.withSps ({ s.sps with queued := s.sps.queued ++ [job] }.startNext)

/-- A full save is in progress (R208): its write runs, or it has been taken and waits behind another write. R207 and R208 do not
say that one that only waits counts as in progress (the model's choice, log entry 64). -/
def fullSaving (s : State) : Bool :=
  let full : SettingsJob → Bool := fun
    | .full .. => true
    | .epoch => false
  (match s.sps.writing with
   | some w => full w.job
   | none => false) || s.sps.queued.any full

/-- The write in progress has read back valid, or has failed once or twice (R207, R208, R172). -/
def settingsWritten (good : Bool) (s : State) : State :=
  match s.sps.writing with
  | none => s
  | some w =>
    if good then
      let s := s.withSps (({ s.sps with writing := none }.setCopy w.copy w.image).startNext)
      match w.job with
      | .full k _ => reply k (.saved w.image.saveCount) s
      | .epoch => s
    else
      let spoilt := s.sps.setCopy w.copy { w.image with checkOk := false }
      if w.repeated then
        let s := s.withSps ({ spoilt with writing := none }.startNext)
        match w.job with
        | .full k _ => refuse k .storeFault s
        | .epoch => raise .settingsLost s
      else s.withSps { spoilt with writing := some { w with repeated := true } }

/-- The write in progress is broken off by a loss of main supply or a restart: its copy is invalid or unchanged, which
is a free value (R207; log entry 2). The writes that wait, and their requests, are lost (R208). -/
def breakOffWrite (s : State) : State :=
  match s.sps.writing with
  | none => s.withSps { s.sps with queued := [] }
  | some w =>
    let x := { s.sps with writing := none, queued := [] }
    if freeCopySpoilt s.drawn then s.draw.withSps (x.setCopy w.copy { s.sps.copy w.copy with checkOk := false })
    else s.draw.withSps x

end Sys2Proof.Machine
end

