-- ==== Sys2Proof/Machine/Journal.lean ====
section
/-! DEFINITION. The journal: stamps and the epoch advance (R172), credits (R174), unreserved records (R175), the two
event classes of the journal (R176). -/

namespace Sys2Proof.Machine
open Sys2Proof.Config

/-- The sequences not yet given in the epoch (R172). -/
def sequencesLeft (s : State) : Nat := max32 + 1 - s.jnl.nextSeq

/-- The sequences of the epoch allow a claim or an unreserved write (R172). -/
def sequencesAllow (s : State) : Bool := s.sps.epoch < max16 || s.jnl.credits < sequencesLeft s

/-- The epoch is advanced by one and its save is taken, or is owed until the restart when the main domain does not run
(R172; log entry 15). -/
def advanceEpoch (s : State) : State :=
  let s := (s.withSps { s.sps with epoch := s.sps.epoch + 1 }).withJnl { s.jnl with nextSeq := 1 }
  if mainOn s then takeJob .epoch s else s.withSps { s.sps with epochOwed := true }

/-- The state in which the next record takes its stamp: the epoch advanced where the sequence would pass its range
(R172). -/
def readyStamp (s : State) : State :=
  if max32 < s.jnl.nextSeq && s.sps.epoch < max16 then advanceEpoch s else s

/-- The stamp of the next record, in a state where it is ready. -/
def State.nextStamp (s : State) : Stamp := { epoch := s.sps.epoch, seq := s.jnl.nextSeq }

/-- A record joins the tail with its stamp; the write that brings the journal to 896 records raises JOURNAL_HIGH (R171,
R172, R176). -/
def appendRecord (time : Time) (body : JBody) (s : State) : State :=
  let s := readyStamp s
  let r : JRecord := { stamp := s.nextStamp, time := time, body := body }
  let s := s.withJnl { s.jnl with records := s.jnl.records ++ [r], nextSeq := s.jnl.nextSeq + 1 }
  if s.jnl.records.length = journalHigh then raise .journalHigh s else s

/-- A record written in the position its credit promised (R174). -/
def writeReserved (time : Time) (body : JBody) (s : State) : State :=
  appendRecord time body (s.withJnl { s.jnl with credits := s.jnl.credits - 1 })

/-- A position is neither occupied nor promised, and the epoch has a sequence for it (R175). -/
def recordFree (s : State) : Bool :=
  s.jnl.records.length + s.jnl.credits < journalCapacity && sequencesAllow s

/-- An unreserved record: written, or dropped, counted and JOURNAL_FULL raised (R175, R176). -/
def writeFree (time : Time) (body : JBody) (s : State) : State :=
  if recordFree s then appendRecord time body s
  else raise .journalFull (countCumulative (fun c => { c with dropped := addSat c.dropped 1 }) s)

/-- A claim of a journal credit is granted (R174). -/
def journalGrants (s : State) : Bool :=
  s.jnl.records.length + s.jnl.credits + 1 ≤ journalCapacity && sequencesAllow s

def claimJournal (s : State) : State := s.withJnl { s.jnl with credits := s.jnl.credits + 1 }

def releaseJournal (s : State) : State := s.withJnl { s.jnl with credits := s.jnl.credits - 1 }

/-- The journal after JOURNAL_RELEASE: the records from the head whose stamp is at or below the given one are gone
(R178). -/
def Stamp.atOrBelow (a b : Stamp) : Bool := a.epoch < b.epoch || (a.epoch == b.epoch && a.seq ≤ b.seq)

/-- The records a JOURNAL_READ reply carries: from the head, up to the count, stopping at the first that would not fit
in the room left (R177). -/
def recordsFitting : Nat → Nat → List JRecord → List JRecord
  | 0, _, _ => []
  | _, _, [] => []
  | n + 1, room, r :: rs => if r.bytes.length ≤ room then r :: recordsFitting n (room - r.bytes.length) rs else []

end Sys2Proof.Machine
end

