-- ==== Sys2Proof/Machine/Store.lean ====
section
/-! DEFINITION. The pass store: buckets and slots (R54, R55), the application of postings to a bucket (R70 to R73, R152,
R159, R160, R162, R164), forwarding (R68), the two queues with their credits and modes (R62 to R67). -/

namespace Sys2Proof.Machine
open Sys2Proof.Config

/-! ### Buckets -/

/-- The bucket of a pass ID (R54). -/
def bucketOf (pass : Nat) : Fin 8192 := Fin.ofNat 8192 ((pass % buckets) ^^^ ((pass / buckets) % buckets))

/-- A bucket image: the four slots in slot order. -/
abbrev Bucket := List PassRecord

/-- The bucket as the device holds it. -/
def readBucket (m : Memory) (b : Fin 8192) : Bucket :=
  (List.range 4).map (fun k => passRecordOf (m.readBytes (slotAddress b.val k) 48))

/-- The slot that holds a pass ID; with several, the lowest-numbered (log entry 16). -/
def slotOfPass (bk : Bucket) (pass : Nat) : Option Nat := bk.findIdx? (fun r => r.passId == pass)

/-- The record of a pass in a bucket. -/
def recordOf (bk : Bucket) (pass : Nat) : Option PassRecord := bk.find? (fun r => r.passId == pass)

/-- The lowest-numbered free slot (R70). -/
def freeSlotOf (bk : Bucket) : Option Nat := slotOfPass bk 0

/-- The number of occupied slots (R69). -/
def occupancy (bk : Bucket) : Nat := (bk.filter (fun r => r.passId != 0)).length

/-! ### The rules of one record -/

/-- The set with the offset of a day from F, when it lies in 0..63 (R71, R159, R162). -/
def addDay (first : Nat) (set : DaySet) (day : Nat) : DaySet :=
  if first ≤ day ∧ day ≤ first + 63 then DaySet.add set (day - first) else set

/-- The later of two last passages; on equal times the stored one (R159). -/
def laterPassage : Option Passage → Option Passage → Option Passage
  | stored, none => stored
  | none, some c => some c
  | some p, some c => if Time.before p.time c.time then some c else some p

/-- A USAGE posting applied to a record (R71). -/
def applyUsage (r : PassRecord) (day : Nat) (time : Time) (bank : Nat) (stamp : Stamp) : PassRecord :=
  { r with
    daySet := r.daySet.map (fun set => addDay r.firstDay set day)
    ridesDay := day
    ridesCount := if r.ridesDay = day then min 255 (r.ridesCount + 1) else 1
    last := laterPassage r.last (some { time := time, bank := bank })
    totalRides := min 65535 (r.totalRides + 1)
    stamp := some stamp }

/-- The rides pair that stays: the later rides day, or the higher count of equal days (R159). -/
def mergeRides (a b : Nat × Nat) : Nat × Nat :=
  if a.1 < b.1 then b else if b.1 < a.1 then a else if a.2 < b.2 then b else a

/-- The first valid day after a merge (R159). -/
def mergedFirstDay (stored carried : PassRecord) : Nat :=
  match stored.daySet with
  | none => carried.firstDay
  | some set => if set = 0 ∨ carried.firstDay = stored.firstDay then carried.firstDay else stored.firstDay

/-- A PUT_MERGE posting applied to the stored record (R159). -/
def applyPutMerge (stored carried : PassRecord) : PassRecord :=
  let refunded := stored.status = .refunded
  let first := mergedFirstDay stored carried
  let rides := mergeRides (stored.ridesDay, stored.ridesCount) (carried.ridesDay, carried.ridesCount)
  { passId := stored.passId
    product := if refunded then stored.product else carried.product
    status := if refunded then .refunded else carried.status
    firstDay := first
    price := if refunded then stored.price else carried.price
    daySet := stored.daySet.map (fun set =>
      (DaySet.offsets (carried.daySet.getD 0)).foldl (fun acc k => addDay first acc (carried.firstDay + k)) set)
    ridesDay := rides.1
    ridesCount := rides.2
    last := laterPassage stored.last carried.last
    totalRides := max stored.totalRides carried.totalRides
    stamp := stored.stamp
    refund := if refunded then stored.refund else if carried.status = .refunded then carried.refund else none }

/-- A MERGE posting applied to the stored record (R162). -/
def applyMerge (r : PassRecord) (days : List Nat) (last : Option Passage) : PassRecord :=
  { r with
    daySet := r.daySet.map (fun set => days.foldl (addDay r.firstDay) set)
    last := laterPassage r.last last }

/-- A STATUS posting applied to the stored record (R164). -/
def applyStatus (r : PassRecord) (st : PassStatus) (refund : Option Nat) : PassRecord :=
  if r.status = .refunded then r
  else { r with status := st, refund := if st = .refunded then refund else none }

/-- A REFUND_MARK posting applied to the stored record (R152). -/
def applyRefundMark (r : PassRecord) (amount : Nat) : PassRecord :=
  if r.status = .refunded then r else { r with status := .refunded, refund := some amount }

/-! ### The application of a posting to a bucket -/

/-- What the application of a posting to a bucket image gives (R70 to R73). -/
inductive Applied where
  /-- one slot changes to this record -/
  | write (slot : Nat) (record : PassRecord)
  /-- no slot changes: no write is made -/
  | unchanged
  /-- a USAGE without a record (R71) -/
  | noRecord
  /-- removed as a lost posting (R70, R72) -/
  | lost
  /-- an uncertain posting whose write had been made (R73) -/
  | skipped
  deriving DecidableEq, Repr

/-- A slot's record replaced by what a rule gives: no write when the record stays as it is (R59). -/
def changed (slot : Nat) (old new : PassRecord) : Applied := if new = old then .unchanged else .write slot new

/-- A rule that needs the record of its pass ID: applied to it, or the outcome for an absent one. -/
def onRecord (bk : Bucket) (pass : Nat) (absent : Applied) (f : PassRecord → PassRecord) : Applied :=
  match slotOfPass bk pass, recordOf bk pass with
  | some k, some r => changed k r (f r)
  | _, _ => absent

/-- The uncertain USAGE whose earlier write was made: usage stamp and last passage time both equal (R73). -/
def usageWritten (r : PassRecord) (time : Time) (stamp : Stamp) : Bool :=
  r.stamp == some stamp && r.last.map (·.time) == some time

/-- The application of a posting to a bucket image, uncertain or not. -/
def applyPosting (bk : Bucket) (uncertain : Bool) : Posting → Applied
  | .usage pass day time bank stamp =>
    match recordOf bk pass with
    | none => .noRecord
    | some r =>
      if uncertain && usageWritten r time stamp then .skipped
      else onRecord bk pass .noRecord (fun r => applyUsage r day time bank stamp)
  | .putInsert c =>
    match slotOfPass bk c.passId, freeSlotOf bk with
    | some _, _ => onRecord bk c.passId .lost (fun r => applyPutMerge r c)
    | none, some k => .write k c
    | none, none => .lost
  | .putMerge c => onRecord bk c.passId .lost (fun r => applyPutMerge r c)
  | .merge pass days last => onRecord bk pass .lost (fun r => applyMerge r days last)
  | .status pass st refund => onRecord bk pass .lost (fun r => applyStatus r st refund)
  | .drop pass => onRecord bk pass (if uncertain then .skipped else .lost) (fun r => { r with passId := 0 })
  | .refundMark pass amount => onRecord bk pass .lost (fun r => applyRefundMark r amount)
  | .closure _ => .unchanged

/-- The bucket image after an application. -/
def Applied.on (a : Applied) (bk : Bucket) : Bucket :=
  match a with
  | .write k r => bk.set k r
  | .unchanged | .noRecord | .lost | .skipped => bk

/-! ### Forwarding (R68) -/

/-- A posting lies in a bucket. -/
def Posting.inBucket (p : Posting) (b : Fin 8192) : Bool :=
  match p.pass with
  | some pass => bucketOf pass == b
  | none => false

/-- Every posting of the bucket applied to its image in queue order; `uncertain` marks the first of the queue. -/
def forwardAll (b : Fin 8192) : Bool → List Posting → Bucket → Bucket
  | _, [], bk => bk
  | uncertain, p :: ps, bk =>
    forwardAll b false ps (if p.inBucket b then (applyPosting bk uncertain p).on bk else bk)

/-- The forwarded bucket of a pass ID as it stands. -/
def forwarded (s : State) (pass : Nat) : Bucket :=
  forwardAll (bucketOf pass) s.psc.uncertain s.psc.postings (readBucket s.store (bucketOf pass))

/-- A posting for the pass ID is forwarded into its lookup (R79). -/
def forwardingHit (s : State) (pass : Nat) : Bool := s.psc.postings.any (fun p => p.pass == some pass)

/-! ### The posting queue (R64 to R66) -/

/-- A posting joins the tail; at 24 entries the mode becomes POSTING_FIRST (R64, R66). -/
def enqueue (p : Posting) (s : State) : State :=
  let s := s.withPsc { s.psc with postings := s.psc.postings ++ [p] }
  if s.psc.postings.length = postingFirstAt ∧ s.psc.mode = .lookupFirst then
    countCumulative (fun c => { c with postingFirst := addSat c.postingFirst 1 })
      (s.withPsc { s.psc with mode := .postingFirst })
  else s

/-- A claim of a posting credit is granted (R65). -/
def postingGrants (s : State) : Bool := s.psc.postings.length + s.psc.credits + 1 ≤ postingCapacity

def claimPosting (s : State) : State := s.withPsc { s.psc with credits := s.psc.credits + 1 }

/-- A posting credit is released, without the report to the seat meter (R65). -/
def dropPostingCredit (s : State) : State := s.withPsc { s.psc with credits := s.psc.credits - 1 }

/-- A posting joins in the place its credit promised (R65). -/
def enqueueReserved (p : Posting) (s : State) : State := enqueue p (dropPostingCredit s)

/-- Free space for a CLOSURE posting (R65). -/
def postingFree (s : State) : Bool := s.psc.postings.length + s.psc.credits < postingCapacity

/-- The head leaves with its uncertain mark; at 8 entries the mode becomes LOOKUP_FIRST (R59, R66). The cycle is
counted (R79). -/
def removeHead (s : State) : State :=
  let s := s.withPsc { s.psc with postings := s.psc.postings.tail, uncertain := false }
  let s := if s.psc.postings.length = lookupFirstAt ∧ s.psc.mode = .postingFirst then
      s.withPsc { s.psc with mode := .lookupFirst }
    else s
  countCumulative (fun c => { c with cycles := addSat c.cycles 1 }) s

/-- A removed posting is lost: counted, recorded in a free position, and POSTING_LOST raised (R61, R70, R72). -/
def postingLost (p : Posting) (s : State) : State :=
  let s := countCumulative (fun c => { c with lostPostings := addSat c.lostPostings 1 }) s
  raise .postingLost (writeFree s.now (.postingLost p) s)

/-! ### The lookup queue and the store port (R62, R63, R67) -/

/-- The lookup joins the tail of the queue at NORMAL priority (R62). -/
def queueLookup (r : Requester) (pass : Nat) (occupancy : Bool) (s : State) : State :=
  s.withPsc { s.psc with lookups := s.psc.lookups ++
    [{ requester := r, pass := pass, urgent := false, queuedAt := s.ms, occupancy := occupancy }] }

def Requester.isLane : Requester → Bool
  | .lane .. => true
  | .service _ => false

/-- Lookups complete STORE_ERROR at once in FAULTED and FORMATTING (R57). -/
def lookupsFail (s : State) : Bool := s.psc.state == .faulted || s.psc.state == .formatting

/-- A withdrawn presentation's lookup leaves the queue (R12). -/
def removeLaneLookup (n : LaneNo) (s : State) : State :=
  s.withPsc { s.psc with lookups := s.psc.lookups.filter (fun l => match l.requester with
    | .lane m _ => m != n
    | .service _ => true) }

/-- An operation is issued at the store port (R60). -/
def issueOp (op : StoreOp) (s : State) : State := s.withPsc { s.psc with op := some { op := op, issued := s.ms } }

/-- The operation at the port has ended. -/
def endOp (s : State) : State := s.withPsc { s.psc with op := none, failures := 0 }

/-- The commit whose lookup is issued has it in flight (R138). -/
def noteCommitInFlight (r : Requester) (s : State) : State :=
  match s.ru.commit with
  | some c => if r = .service c.slot then s.withRu { commit := some { c with progress := .lookupInFlight } } else s
  | none => s

/-- A lookup leaves the queue and its read is issued (R62). -/
def startLookup (l : Lookup) (s : State) : State :=
  noteCommitInFlight l.requester
    (issueOp (.lookupRead l) (s.withPsc { s.psc with lookups := s.psc.lookups.erase l }))

/-- The operation a cycle of a posting begins with (R59). -/
def cycleStart : Posting → StoreOp
  | .closure e => .closureWrite e
  | .usage .. | .putInsert _ | .putMerge _ | .merge .. | .status .. | .drop _ | .refundMark .. => .postingRead

/-- The oldest lookup of a kind: the first in the queue's order (R67). -/
def oldest (s : State) (f : Lookup → Bool) : Option Lookup := s.psc.lookups.find? f

/-- The selection of the next operation when the store is free in READY (R67). -/
def selectNext (s : State) : State :=
  if mainOn s && s.psc.state == .ready && s.psc.op.isNone then
    let lane := oldest s (·.requester.isLane)
    let service := oldest s (fun l => !l.requester.isLane)
    match oldest s (·.urgent), s.psc.mode, lane, service, s.psc.postings with
    | some l, _, _, _, _ => startLookup l s
    | none, .lookupFirst, some l, _, _ => startLookup l s
    | none, .lookupFirst, none, some l, _ => startLookup l s
    | none, .postingFirst, _, _, p :: _ => issueOp (cycleStart p) s
    | none, .postingFirst, some l, _, [] => startLookup l s
    | none, .postingFirst, none, some l, [] => startLookup l s
    | none, .lookupFirst, none, none, p :: _ => issueOp (cycleStart p) s
    | none, _, none, none, [] => s
  else s

/-! ### Writes of the store device -/

/-- A whole write of bytes at an address of the device. -/
def writeStore (address : Nat) (bytes : List Byte) (s : State) : State := s.withStore (s.store.writeBytes address bytes)

/-- The effect of a write operation on the device, where the operation is one; reads change nothing. -/
def deviceWrite (op : StoreOp) (formatNo : Nat) (s : State) : State :=
  match op with
  | .postingWrite b k r => writeStore (slotAddress b.val k.val) r.bytes s
  | .closureWrite e => writeStore (closureAddress (e.day % closureCapacity)) e.bytes s
  | .format _ .invalidHeader => s.withStore (s.store.clear 0 14)
  | .format _ (.bucket b) => s.withStore (s.store.clear (slotAddress b.val 0) 192)
  | .format _ .closureArea => s.withStore (s.store.clear (closureAddress 0) 1536)
  | .format _ .validHeader => writeStore 0 (headerBytes formatNo) s
  | .lookupRead _ | .postingRead | .mountHeader _ | .mountClosure _ | .recoverHeader _ => s

/-- The format number that a format writes: one more than that of the last valid header mounted since the restart, from
65,535 on to 1; 1 when none has been mounted (R76). -/
def newFormatNo (s : State) : Nat := if s.psc.formatNo = max16 then 1 else s.psc.formatNo + 1

/-- A write that may have been made all the same: a free value says whether it was (R53, R60, R73; log entry 1). A
format that ends early leaves the header invalid (R76; log entry 29). -/
def perhapsWritten (op : StoreOp) (s : State) : State :=
  match op with
  | .postingWrite .. | .closureWrite _ | .format _ (.bucket _) | .format _ .closureArea =>
    if freeWriteMade s.drawn then deviceWrite op 0 s.draw else s.draw
  | .format _ .invalidHeader => deviceWrite op 0 s
  | .lookupRead _ | .postingRead | .mountHeader _ | .mountClosure _ | .recoverHeader _ | .format _ .validHeader => s

/-! ### Mounting (R77) -/

/-- The format number of the header the device holds, when it is valid (R53). -/
def mountedHeader (s : State) : Option Nat := headerFormatNo (s.store.readBytes 0 14)

/-- The closure entries of the closure area, by position; a position whose day is 0 is empty (R56, 12.5). -/
def closureArea (s : State) : List ClosureEntry :=
  ((List.range closureCapacity).map (fun p => closureEntryOf (s.store.readBytes (closureAddress p) 16)))

/-- The scheduling mode by the length of the posting queue (R66). -/
def modeForLength (n : Nat) : StoreMode := if postingFirstAt ≤ n then .postingFirst else .lookupFirst

end Sys2Proof.Machine
end

