-- ==== Sys2Proof/Machine/Metering.lean ====
section
/-! DEFINITION. The seat meter (chapter 5): windows, the waiting list, the grant pass and the grant step, returned seats,
the releases that start a grant pass, halt detection; and the provisional append that a grant makes (R93). -/

namespace Sys2Proof.Machine
open Sys2Proof.Config

/-- A lane's context changed. -/
def modLane (n : LaneNo) (f : Lane → Lane) (s : State) : State := s.setLane n (f (s.lane n))

/-- The pass of a lane's member, as the lane holds it. -/
def Lane.passId (l : Lane) : Nat := (l.pass.map (·.1)).getD 0

/-- The pass of an entry joins the provisional list; a full list drops its oldest entry first (R93). -/
def provisionalAppend (pass : Nat) (s : State) : State :=
  let old := s.iqu.provisional
  let kept := if old.length < provisionalCapacity then old else old.drop (old.length + 1 - provisionalCapacity)
  s.withIqu { s.iqu with provisional := kept ++ [{ pass := pass, time := s.now }] }

/-! ### Grants (R102, R103, R16) -/

/-- A current window with a free seat. -/
def windowFree (s : State) : Bool :=
  match s.sm.window with
  | some w => w.granted < w.seats
  | none => false

/-- The lane takes its grant (R16). -/
def takeGrant (window : Nat) (a : Admission) (s : State) (l : Lane) : Lane :=
  { l with state := .granted
           grant := some { window := window, day := s.du.day, postingCredit := a == .storeBacked }
           stateTimer := some (s.ms + s.sps.bank.passThrough * 1000) }

/-- The credits of a grant are claimed, and the waiting lane is granted a seat of the current window (R103). -/
def grantLane (e : SeatWait) (s : State) : State :=
  match s.sm.window with
  | none => s
  | some w =>
    let s := claimJournal s
    let s := if e.admission = .storeBacked then claimPosting s else s
    let s := s.withSm { s.sm with waiting := s.sm.waiting.filter (fun x => x.lane != e.lane)
                                  window := some { w with granted := w.granted + 1 } }
    let s := modLane e.lane (takeGrant w.number e.admission s) s
    if e.admission = .provisional then provisionalAppend e.pass s else s

/-- The grant step: granted; passed over for want of a posting credit; or a refused journal credit, which raises
JOURNAL_FULL and ends the pass (R102, R103). The Boolean says that the pass goes on. -/
def grantStep (e : SeatWait) (s : State) : Bool × State :=
  if !journalGrants s then (false, raise .journalFull s)
  else if e.admission == .storeBacked && !postingGrants s then (true, s)
  else (true, grantLane e s)

/-- The entries offered in list order while the window has a free seat. -/
def offerAll : List SeatWait → State → State
  | [], s => s
  | e :: es, s =>
    if windowFree s then
      match grantStep e s with
      | (true, s') => offerAll es s'
      | (false, s') => s'
    else s

/-- A grant pass (R102). -/
def grantPass (s : State) : State := offerAll s.sm.waiting s

/-! ### Credits and seats that come back -/

/-- A journal credit is released and reported to the seat meter (R174). -/
def giveBackJournal (s : State) : State := grantPass (releaseJournal s)

/-- A posting credit is released and reported to the seat meter (R65, R102). -/
def giveBackPosting (s : State) : State := grantPass (dropPostingCredit s)

/-- A seat handed back under a window number (R104). -/
def returnSeat (window : Nat) (s : State) : State :=
  match s.sm.window with
  | some w =>
    if w.number = window then
      grantPass (s.withSm { s.sm with window := some { w with granted := w.granted - 1 } })
    else s
  | none => s

/-! ### The waiting list -/

/-- A lane joins the waiting list with its wait timer (R101). -/
def joinWaiting (n : LaneNo) (a : Admission) (s : State) : State :=
  let l := s.lane n
  grantPass (s.withSm { s.sm with waiting := s.sm.waiting ++
    [{ lane := n, presentation := l.presentation, admission := a, pass := l.passId
       timer := some (s.ms + s.sps.bank.waitLimit * 1000) }] })

/-- A lane leaves the waiting list (R106, R107). -/
def leaveWaiting (n : LaneNo) (s : State) : State :=
  s.withSm { s.sm with waiting := s.sm.waiting.filter (fun x => x.lane != n) }

/-! ### Windows (R100, R114) -/

/-- The current window ends and its figures are handed over (R114). -/
def endWindow (s : State) : State :=
  match s.sm.window with
  | none => s
  | some w =>
    let s' := s.withSm { s.sm with window := none }
    if w.counted then
      countDay (fun c => { c with
        windows := addSat c.windows 1
        seatsOffered := addSat c.seatsOffered w.seats
        seatsGranted := addSat c.seatsGranted w.granted
        endedWaiting := if s.sm.waiting.isEmpty then c.endedWaiting else addSat c.endedWaiting 1 }) s'
    else s'

/-- The schedule state admits riders. -/
def SchedState.running : SchedState → Bool
  | .isOpen | .lastCall => true
  | .beforeOpen | .closed => false

/-- A window opens (R100). -/
def openWindow (s : State) : State :=
  let s := endWindow s
  let number := (s.sm.windowNo + 1) % 65536
  grantPass (s.withSm { s.sm with
    windowNo := number
    window := some { number := number, seats := s.sps.bank.seatCount, granted := 0
                     counted := s.du.day != 0 && s.du.sched.running } })

/-- The window timer starts with the timer period as it stands (R99). -/
def startWindowTimer (s : State) : State :=
  s.withSm { s.sm with windowTimer := some (s.ms + s.sps.bank.timerPeriod * 100) }

/-! ### Halt detection (R110) -/

/-- The conditions under which detection is armed. -/
def detectionHolds (s : State) : Bool :=
  mainOn s && s.sps.bank.source == .pulse && s.du.day != 0 && s.du.sched.running && s.sm.halt.isNone

/-- Detection is armed, where its conditions hold, with the clock as the reference. -/
def armDetection (s : State) : State :=
  if detectionHolds s then
    s.withSm { s.sm with reference := some s.now, haltTimer := some (s.ms + s.sps.bank.haltDetect * 1000) }
  else s

def disarmDetection (s : State) : State := s.withSm { s.sm with reference := none, haltTimer := none }

/-! ### The active pass set (R40, R41) -/

/-- The pass is a member. -/
def isMember (pass : Nat) (s : State) : Bool := s.ae.members.any (fun m => m.pass == pass)

def joinSet (pass : Nat) (h : Holder) (s : State) : State :=
  s.withAe { members := s.ae.members ++ [{ pass := pass, holder := h }] }

/-- The member of a holder leaves the set. -/
def leaveSet (h : Holder) (s : State) : State := s.withAe { members := s.ae.members.filter (fun m => m.holder != h) }

/-- The member of a lane under its presentation leaves the set (R41). -/
def leaveSetLane (n : LaneNo) (s : State) : State := leaveSet (.lane n (s.lane n).presentation) s

end Sys2Proof.Machine
end

