-- ==== Sys2Proof/Machine/LaneOps.lean ====
section
/-! DEFINITION. The lane units (chapter 1): the outputs, the entries to IDLE, DENIED, FAULT and DISABLED, withdrawal, the
end of a grant, passages, intrusions, fault causes, and the clearing of lanes by a hold or a halt (R108). -/

namespace Sys2Proof.Machine
open Sys2Proof.Config

/-! ### Outputs (R7) -/

/-- The lamp that a lane shows. -/
def Lane.lamp (l : Lane) : Lamp :=
  match l.state with
  | .off | .idle => .off
  | .reading | .checking | .inquiring | .waiting => .amber
  | .granted | .passing => .green
  | .denied | .disabled | .fault => .red

/-- LAMPnR is high. -/
def Lane.lampRed (l : Lane) : Bool := l.lamp == .red || l.lamp == .amber

/-- LAMPnG is high. -/
def Lane.lampGreen (l : Lane) : Bool := l.lamp == .green || l.lamp == .amber

/-- RELn is high: the arm may turn. -/
def Lane.released (l : Lane) : Bool :=
  match l.state with
  | .granted => true
  | .passing => !((l.obs.map (·.rotationSeen)).getD true)
  | .off | .disabled | .idle | .reading | .checking | .inquiring | .waiting | .denied | .fault => false

/-! ### Tests of a lane -/

/-- The lane watches its line, its inputs and its timers: the main domain runs and the lane is not OFF (R2, R28). -/
def liveLane (s : State) (n : LaneNo) : Bool := mainOn s && (s.lane n).state != .off

/-- A fault cause holds. -/
def Lane.faulty (l : Lane) : Bool := l.beamStuck || l.readerSilent

/-- A beam is broken. -/
def Lane.beamBroken (l : Lane) : Bool := l.entryBroken || l.exitBroken

/-- A grant or a passage is in hand. -/
def Lane.granted (l : Lane) : Bool := l.state == .granted || l.state == .passing

/-! ### Entries to a state -/

/-- What every entry to IDLE clears, and to FAULT as well (R15, R26). -/
def Lane.cleared (l : Lane) : Lane :=
  { l with medium := none, mediumPresent := false, image := none, pass := none, admission := none, readFailures := 0,
           grant := none, obs := none }

/-- A presentation of a medium is taken: a new number, no failed read, READING (R8, R15). -/
def Lane.present (l : Lane) (medium : Nat) : Lane :=
  { l with presentation := (l.presentation + 1) % 256, medium := some medium, mediumPresent := true, readFailures := 0
           state := .reading, beamTimer := none }

/-- The suppressed medium at the end of a display (R15). -/
def Lane.suppressAtEnd (l : Lane) : Lane :=
  { l with suppressed := if l.mediumPresent then l.medium else none }

/-- The lane's beam-stuck timer started at millisecond `ms` where a beam is broken (R24). -/
def Lane.beamTimerFrom (l : Lane) (ms stuck : Nat) : Timer :=
  if l.beamBroken then some (ms + stuck * 1000) else none

/-- IDLE, and a held presentation taken at once with a READ due (R15). -/
def enterIdle (n : LaneNo) (s : State) : State :=
  modLane n (fun l =>
    let l := { l.cleared with state := .idle, stateTimer := none
                              beamTimer := l.beamTimerFrom s.ms s.sps.bank.beamStuck }
    match l.held with
    | some m => { (l.present m) with held := none, readsDue := l.readsDue + 1 }
    | none => l) s

/-- FAULT, with LANE_FAULT raised (R26). -/
def enterFault (n : LaneNo) (s : State) : State :=
  raiseLane .laneFault n (modLane n (fun l =>
    { l.cleared with state := .fault, held := none, stateTimer := none, beamTimer := none, disablePending := false }) s)

/-- DISABLED (R27). The medium and the image stay in the context until the next entry to IDLE (R1). -/
def enterDisabled (n : LaneNo) (s : State) : State :=
  modLane n (fun l =>
    { l with state := .disabled, held := none, stateTimer := none, beamTimer := none, admission := none, grant := none
             obs := none, readFailures := 0, disablePending := false }) s

/-- DENIED with its display, whatever the reason (R14). -/
def showDenied (n : LaneNo) (s : State) : State :=
  modLane n (fun l =>
    { l with state := .denied, stateTimer := some (s.ms + s.sps.bank.denyDisplay * 100), admission := none
             grant := none, obs := none, readFailures := 0 }) s

/-- A denial is counted at the lane and in the day's total (R14, R180, R181). -/
def countDenial (n : LaneNo) (r : Reason) (s : State) : State :=
  countDay (fun c => { c with denials := addSat c.denials 1 })
    (countLane n (fun c => { c with
      denials := c.denials.setIfInBounds r.code (addSat (c.denials.getD r.code 0) 1) }) s)

/-- The lane enters DENIED with a reason (R14). -/
def deny (n : LaneNo) (r : Reason) (s : State) : State := showDenied n (leaveSetLane n (countDenial n r s))

/-! ### Withdrawal (R12, R86) -/

/-- The pending inquiry of a lane's presentation keeps pending without its lane (R86). -/
def departInquiry (n : LaneNo) (s : State) : State :=
  s.withIqu { s.iqu with
    waiting := s.iqu.waiting.filter (fun e => e.lane != n)
    pending := s.iqu.pending.map (fun p =>
      if p.lane = n ∧ p.presentation = (s.lane n).presentation then { p with lanePresent := false } else p) }

/-- A presentation handed on but not yet granted is withdrawn (R12). -/
def withdraw (n : LaneNo) (s : State) : State :=
  let s := match (s.lane n).state with
    | .checking => removeLaneLookup n s
    | .inquiring => departInquiry n s
    | .waiting => leaveWaiting n s
    | .off | .disabled | .idle | .reading | .granted | .passing | .denied | .fault => s
  leaveSetLane n s

/-! ### The end of a grant and of a passage -/

/-- A granted lane's credits are given back (R17, R22): the journal credit with its grant pass, then the posting credit with
its own (R104 and R174 state no order: the model's choice, log entry 59). -/
def giveBackCredits (n : LaneNo) (s : State) : State :=
  match (s.lane n).grant with
  | none => s
  | some g =>
    let s := giveBackJournal s
    if g.postingCredit then giveBackPosting s else s

/-- A grant that expires or is cancelled: counted, the seat handed back, the credits released, the pass out of the set
(R17, R18). The seat comes back first, and its grant pass meets the lane's own credits still outstanding (R104 states no
order: the model's choice, log entry 59). -/
def endGrant (n : LaneNo) (s : State) : State :=
  let s := countLane n (fun c => { c with expiries := addSat c.expiries 1 }) s
  let s := match (s.lane n).grant with
    | some g => returnSeat g.window s
    | none => s
  leaveSetLane n (giveBackCredits n s)

/-- DENIED without a reason, or FAULT where a fault cause holds (R17, R26). -/
def afterGrant (n : LaneNo) (s : State) : State :=
  if (s.lane n).faulty then enterFault n s else showDenied n s

/-- The grant of a lane is cancelled by a hold or a halt, or has expired (R17, R18). -/
def expireGrant (n : LaneNo) (s : State) : State := afterGrant n (endGrant n s)

/-- After a passage: DISABLED, FAULT or IDLE (R21, R22). -/
def afterPassage (n : LaneNo) (s : State) : State :=
  if (s.lane n).disablePending then enterDisabled n s
  else if (s.lane n).faulty then enterFault n s
  else enterIdle n s

/-- The follower count of an exit-break count (R20). -/
def followersOf (breaks : Nat) : Nat := breaks - 1

/-- The counts of a completed passage (R180, R181). -/
def countPassage (n : LaneNo) (a : Admission) (followers : Nat) (s : State) : State :=
  let sb : Nat := if a = .storeBacked then 1 else 0
  let tail : Nat := if followers = 0 then 0 else 1
  let s := countLane n (fun c => { c with
    passages := addSat c.passages sb, provisional := addSat c.provisional (1 - sb)
    tailgates := addSat c.tailgates tail, followers := addSat c.followers followers }) s
  let s := countDay (fun c => { c with
    passages := addSat c.passages sb, provisional := addSat c.provisional (1 - sb)
    followers := addSat c.followers followers }) s
  countRiders (1 + followers) s

/-- The stamp of the record just written. -/
def State.lastStamp (s : State) : Stamp := { epoch := s.sps.epoch, seq := s.jnl.nextSeq - 1 }

/-- A passage is recorded: journal record, USAGE posting, counts, the pass out of the set, the last passage offsets
(R21; with `powerCut`, R28). -/
def recordPassage (n : LaneNo) (powerCut : Bool) (s : State) : State :=
  let l := s.lane n
  match l.grant, l.admission, l.obs with
  | some g, some a, some o =>
    let followers := followersOf o.breaks
    let s := writeReserved s.now
      (.passage (a == .provisional) n l.passId ((l.pass.map (·.2)).getD 0) g.day (followers != 0) powerCut followers) s
    let s := if a = .storeBacked then
        enqueueReserved (.usage l.passId g.day s.now s.sps.bank.bankId s.lastStamp) s
      else s
    let s := countPassage n a followers s
    let s := if followers = 0 then s else raiseLane .tailgate n s
    modLane n (fun l => { l with lastOffsets := (match o.first, o.last with
      | some x, some y => some (x, y)
      | _, _ => none) }) (leaveSetLane n s)
  | _, _, _ => s

/-- A passage completes (R21). -/
def completePassage (n : LaneNo) (s : State) : State := afterPassage n (recordPassage n false s)

/-- A passage is abandoned (R22). -/
def abandonPassage (n : LaneNo) (s : State) : State :=
  let s := countLane n (fun c => { c with abandoned := addSat c.abandoned 1 }) s
  afterPassage n (leaveSetLane n (giveBackCredits n s))

/-- The lane enters PASSING with its observations: an exit beam broken at that moment is the first break at offset 0
(R17, R20). -/
def enterPassing (n : LaneNo) (s : State) : State :=
  modLane n (fun l =>
    { l with state := .passing, stateTimer := some (s.ms + s.sps.bank.passingLimit * 1000)
             obs := some { rotationSeen := false, breaks := if l.exitBroken then 1 else 0
                           first := if l.exitBroken then some 0 else none
                           last := if l.exitBroken then some 0 else none
                           clearAt := none, entered := s.ms } }) s

/-- An exit-beam break of a passage: the first, or one after a clear of at least the body gap, is counted (R20). -/
def PassageObs.noteBreak (o : PassageObs) (ms : Nat) : PassageObs :=
  let counts := o.breaks == 0 || (match o.clearAt with
    | some c => c + bodyGapMs ≤ ms
    | none => false)
  if counts then
    let offset := ms - o.entered
    { o with breaks := min 255 (o.breaks + 1), last := some offset
             first := if o.breaks = 0 then some offset else o.first }
  else o

/-- An intrusion (R23). -/
def intrusion (n : LaneNo) (s : State) : State :=
  let s := countLane n (fun c => { c with intrusions := addSat c.intrusions 1 }) s
  let s := countRiders 1 (countDay (fun c => { c with intrusions := addSat c.intrusions 1 }) s)
  raiseLane .intrusion n (writeFree s.now (.intrusion n) s)

/-! ### Failed reads (R9) -/

/-- A failed read in READING: the third denies the presentation UNREADABLE, the others ask again. -/
def failedRead (n : LaneNo) (s : State) : State :=
  let s := countLane n (fun c => { c with readFailures := addSat c.readFailures 1 }) s
  if 2 ≤ (s.lane n).readFailures then deny n .unreadable s
  else modLane n (fun l => { l with readFailures := l.readFailures + 1, readsDue := l.readsDue + 1 }) s

/-! ### Fault causes (R24 to R26) -/

/-- What an added fault cause does to the lane (R26). -/
def faultAdded (n : LaneNo) (s : State) : State :=
  match (s.lane n).state with
  | .idle | .reading => enterFault n s
  | .denied => enterFault n (modLane n Lane.suppressAtEnd s)
  | .checking | .inquiring | .waiting => enterFault n (withdraw n s)
  | .off | .disabled | .granted | .passing | .fault => s

/-- A fault cause was removed: the last one lets the lane leave FAULT (R26). -/
def faultRemoved (n : LaneNo) (s : State) : State :=
  if (s.lane n).state = .fault ∧ ¬ (s.lane n).faulty then enterIdle n s else s

/-- Both beams are accepted clear: the beam-stuck timer stops, and BEAM_STUCK leaves the causes in FAULT and DISABLED
(R24). -/
def beamsClear (n : LaneNo) (s : State) : State :=
  if (s.lane n).beamBroken then s
  else
    let st := (s.lane n).state
    if st = .fault ∨ st = .disabled then faultRemoved n (modLane n (fun l => { l with beamStuck := false }) s)
    else modLane n (fun l => { l with beamTimer := none }) s

/-- A beam is broken in IDLE: the beam-stuck timer starts, unless it runs (R24). -/
def beamBreakIdle (n : LaneNo) (s : State) : State :=
  if (s.lane n).state = .idle ∧ (s.lane n).beamTimer = none then
    modLane n (fun l => { l with beamTimer := l.beamTimerFrom s.ms s.sps.bank.beamStuck }) s
  else s

/-- A beam that the first sample of the part shows broken is broken from then on, without a beam-break event (R4): it starts the
beam-stuck timer of a lane in IDLE from that sample, unless the timer runs (R24). -/
def beamStoodBroken (n : LaneNo) (s : State) : State :=
  modLane n (fun l => { l with beamTimer :=
    if l.state = .idle ∧ l.beamTimer = none then l.beamTimerFrom s.sps.startedAt s.sps.bank.beamStuck else l.beamTimer }) s

/-- The silence timer starts again at 3 s: a frame with a good check was taken (R5). -/
def heard (n : LaneNo) (s : State) : State := modLane n (fun l => { l with silenceTimer := some (s.ms + silenceMs) }) s

/-! ### A hold or a halt begins (R108) -/

/-- The lanes of the waiting list denied in list order. -/
def denyWaiting (r : Reason) : List SeatWait → State → State
  | [], s => s
  | e :: es, s => denyWaiting r es (deny e.lane r s)

/-- The granted lanes cancelled, in lane order (log entry 17). -/
def cancelGranted : List LaneNo → State → State
  | [], s => s
  | n :: ns, s => cancelGranted ns (if (s.lane n).state = .granted then expireGrant n s else s)

/-- The seat meter clears its lanes: HOLD at a hold, HALTED at a halt. -/
def clearLanes (r : Reason) (s : State) : State :=
  let waiting := s.sm.waiting
  cancelGranted allLanes (denyWaiting r waiting (s.withSm { s.sm with waiting := [] }))

end Sys2Proof.Machine
end

