-- ==== Sys2Proof/Machine/DayOps.lean ====
section
/-! DEFINITION. The day unit (chapter 6): the schedule state, the stopped indicator, lost seconds and accrued spans, the
closure log, and the closing of a day; with the DAY_CLOSE record of the journal (R183). -/

namespace Sys2Proof.Machine
open Sys2Proof.Config

/-! ### Schedule -/

/-- The scheduled seconds of a day (R118). -/
def Schedule.seconds (x : Schedule) : Nat := x.closeSec - x.openSec

/-- A day second lies in [open, close). -/
def Schedule.contains (x : Schedule) (sec : Nat) : Bool := x.openSec ≤ sec && sec < x.closeSec

/-- The schedule state of a day second (R122). -/
def Schedule.stateAt (x : Schedule) (sec : Nat) : SchedState :=
  if sec < x.openSec then .beforeOpen
  else if sec < x.closeSec - x.lead then .isOpen
  else if sec < x.closeSec then .lastCall
  else .closed

/-- The schedule state as it is to be: BEFORE_OPEN while the clock is unset (R119). -/
def schedNow (s : State) : SchedState := if s.du.day = 0 then .beforeOpen else s.sps.schedule.stateAt s.du.sec

/-- The schedule state evaluated; a change is handed to the seat meter, which arms or disarms detection (R122, R110). -/
def evalSchedule (s : State) : State :=
  let old := s.du.sched
  let new := schedNow s
  if new = old then s
  else
    let s := s.withDu { s.du with sched := new }
    if new.running then (if old.running then s else armDetection s) else disarmDetection s

/-! ### The stopped indicator (R118, R125) -/

def stopped (s : State) : Bool := s.du.halt.isSome || s.du.hold.isSome || s.du.backup.isSome

/-! ### Accrued spans (R126, R127) -/

/-- The open span closed where it stands. -/
def closeSpans (xs : List Span) : List Span := xs.map (fun x => { x with isOpen := false })

/-- The open span is closed when the stopped indicator is false or the day second has reached the close (R126). -/
def settleSpans (s : State) : State :=
  if stopped s && s.du.sec < s.sps.schedule.closeSec then s
  else s.withDu { s.du with spans := closeSpans s.du.spans }

/-- A span in its place of the time order. A span that it follows is ended: the last alone may be open (R118). -/
def insertSpan (x : Span) : List Span → List Span
  | [] => [x]
  | y :: ys => if x.start < y.start then x :: y :: ys else { y with isOpen := false } :: insertSpan x ys

/-- The two oldest spans merged into one. -/
def mergeOldest : List Span → List Span
  | x :: y :: rest => { start := x.start, finish := y.finish, isOpen := y.isOpen } :: rest
  | xs => xs

/-- Room for a new span: spans that ended 120 s or more ago are removed, then, with 8 still held, the two oldest are merged
(R126). -/
def makeRoom (sec : Nat) (xs : List Span) : List Span :=
  let recent := xs.filter (fun y => y.isOpen || sec < y.finish + 120)
  if spanCapacity ≤ recent.length then mergeOldest recent else recent

/-- A new span joins (R126). -/
def addSpan (sec : Nat) (x : Span) (xs : List Span) : List Span := insertSpan x (makeRoom sec xs)

/-- The last span is open. -/
def hasOpen (xs : List Span) : Bool := xs.any (·.isOpen)

/-- The second just ended is counted as lost where R126 provides. -/
def accrueSecond (s : State) : State :=
  let sec := s.du.sec
  let covered := s.du.spans.any (fun x => !x.isOpen && x.start ≤ sec && sec < x.finish)
  if stopped s && s.sps.schedule.contains sec && !covered && s.du.lost < s.sps.schedule.seconds then
    let spans :=
      if hasOpen s.du.spans then s.du.spans.map (fun x => if x.isOpen then { x with finish := sec + 1 } else x)
      else addSpan sec { start := sec, finish := sec + 1, isOpen := true } s.du.spans
    s.withDu { s.du with lost := s.du.lost + 1, spans := spans }
  else s

/-- What is left of a range [a, b) outside a span. -/
def outside (x : Span) (r : Nat × Nat) : List (Nat × Nat) :=
  [(r.1, min r.2 x.start), (max r.1 x.finish, r.2)].filter (fun p => p.1 < p.2)

/-- What is left of a range outside every span. -/
def uncovered (xs : List Span) (r : Nat × Nat) : List (Nat × Nat) :=
  xs.foldl (fun rs x => rs.flatMap (outside x)) ([r].filter (fun p => p.1 < p.2))

/-- One uncovered range of a backdated span is added to the lost time, within the cap, as a closed span (R127). Room is
made for that span first; where the merge that makes it covers the range, nothing is added (R126; log entry 56). -/
def addLost (r : Nat × Nat) (s : State) : State :=
  let spans := makeRoom s.du.sec s.du.spans
  match uncovered spans r with
  | [] => s.withDu { s.du with spans := spans }
  | p :: _ =>
    let n := min (p.2 - p.1) (s.sps.schedule.seconds - s.du.lost)
    if n = 0 then s
    else s.withDu { s.du with
      lost := s.du.lost + n
      spans := insertSpan { start := p.1, finish := p.1 + n, isOpen := false } spans }

/-- The backdated span [halt start, declaration): its part on the current day, within the schedule, outside the accrued
spans (R127). -/
def backdate (start : Time) (s : State) : State :=
  let a := if start.day = s.du.day then start.sec else 0
  let r := (max a s.sps.schedule.openSec, min s.du.sec s.sps.schedule.closeSec)
  (uncovered s.du.spans r).foldl (fun s r => addLost r s) s

/-! ### Stops (R125, R128) -/

/-- A halt is reported: it stands with its start, and the backdated span is added. -/
def reportHalt (start : Time) (s : State) : State := backdate start (s.withDu { s.du with halt := some start })

/-- The STOP record of a stop that ends (R128). -/
def stopRecord (cause : StopCause) (start finish : Time) (s : State) : State :=
  writeFree finish (.stop start finish cause) s

/-- The halt as reported ends at a time, with its STOP record (R125, R128). -/
def endHalt (finish : Time) (s : State) : State :=
  match s.du.halt with
  | none => s
  | some start => settleSpans (stopRecord .halt start finish (s.withDu { s.du with halt := none }))

/-- The backup stop ends, with its STOP record (R128, R136). -/
def endBackup (s : State) : State :=
  match s.du.backup with
  | none => s
  | some start => settleSpans (stopRecord .power start s.now (s.withDu { s.du with backup := none }))

/-! ### The closure log (R131 to R133) -/

def dayDistance (a b : Nat) : Nat := (a - b) + (b - a)

/-- The entry whose day lies furthest from a day, the earlier of two at equal distance; entries are in day order. -/
def furthest (day : Nat) : List ClosureEntry → Option ClosureEntry
  | [] => none
  | e :: es =>
    match furthest day es with
    | none => some e
    | some f => if dayDistance f.day day ≤ dayDistance e.day day then some e else some f

/-- An entry in its place of the day order, replacing an entry of its day. -/
def insertEntry (e : ClosureEntry) : List ClosureEntry → List ClosureEntry
  | [] => [e]
  | f :: fs =>
    if e.day < f.day then e :: f :: fs
    else if e.day = f.day then e :: fs
    else f :: insertEntry e fs

def entryOf (log : List ClosureEntry) (day : Nat) : Option ClosureEntry := log.find? (fun e => e.day == day)

/-- An entry set in the log; a new one that would be the 97th pushes out the furthest first (R131). -/
def setEntry (e : ClosureEntry) (log : List ClosureEntry) : List ClosureEntry :=
  if (entryOf log e.day).isNone && closureCapacity ≤ log.length then
    insertEntry e (match furthest e.day log with
      | some f => log.filter (fun x => x.day != f.day)
      | none => log)
  else insertEntry e log

/-- An entry with no local figures (R131). -/
def ClosureEntry.bare (day : Nat) : ClosureEntry :=
  { day := day, scheduled := 0, lost := 0, local_ := 0, central := none, final := false, unsaved := false }

/-- Today's working value (R132). -/
def workingValue (s : State) : Nat := s.du.lost * 1000 / s.sps.schedule.seconds

/-- The effective loss of a day (R132). -/
def effectiveLoss (s : State) (day : Nat) : Nat :=
  let central := (entryOf s.du.log day).bind (·.central)
  if s.du.day ≠ 0 ∧ day = s.du.day then max (workingValue s) (central.getD 0)
  else
    match entryOf s.du.log day with
    | some e => max e.local_ (central.getD 0)
    | none => 0

/-- A CLOSURE posting is offered for the entry of a day: taken in free space, or the entry is marked unsaved (R133). -/
def postClosure (day : Nat) (s : State) : State :=
  match entryOf s.du.log day with
  | none => s
  | some e =>
    if postingFree s then
      enqueue (.closure { e with unsaved := false })
        (s.withDu { s.du with log := insertEntry { e with unsaved := false } s.du.log })
    else s.withDu { s.du with log := insertEntry { e with unsaved := true } s.du.log }

/-- A CLOSURE posting is offered for each unsaved entry, in day order, while free space remains (R129). -/
def offerUnsaved : List ClosureEntry → State → State
  | [], s => s
  | e :: es, s => offerUnsaved es (if e.unsaved && postingFree s then postClosure e.day s else s)

/-! ### Closing a day (R129, R130, R183) -/

/-- The current day's entry is finalised (R129, stage 1). R129 has the local figures join an entry "made by a CLOSURE_NOTE" and is
silent on a day whose entry was not so made (already final, rebuilt from the store after a cold start, R137): that its local figures
are written over and its L_central kept is the model's choice (log entry 73). -/
def finaliseDay (s : State) : State :=
  let old := (entryOf s.du.log s.du.day).getD (ClosureEntry.bare s.du.day)
  s.withDu { s.du with log := setEntry { old with
    scheduled := s.sps.schedule.seconds, lost := s.du.lost, local_ := workingValue s, final := true } s.du.log }

/-- The DAY_CLOSE record is built and written or dropped, then the day counters start again (R183). -/
def closeBooks (s : State) : State :=
  let c := s.jnl.day
  countDay (fun _ => DayCounters.zero)
    (writeFree s.now (.dayClose
      { day := s.du.day, scheduled := s.sps.schedule.seconds, lost := s.du.lost, local_ := workingValue s
        passages := c.passages, provisional := c.provisional, denials := c.denials, followers := c.followers
        intrusions := c.intrusions, seatsOffered := c.seatsOffered, seatsGranted := c.seatsGranted }) s)

/-- Stages 1 to 3 of R129. -/
def closeDay (s : State) : State :=
  let s := postClosure s.du.day (finaliseDay s)
  let s := offerUnsaved s.du.log s
  raise .dayClosed (closeBooks s)

/-- A day begins at a second, with nothing lost and no spans (R129, stage 4; R120, R130). -/
def beginDay (day sec : Nat) (s : State) : State :=
  evalSchedule (s.withDu { s.du with day := day, sec := sec, lost := 0, spans := [] })

/-- The rollover at the advance from day second 86,399; past day 65,535 the clock becomes unset (R119, R129). -/
def rollover (s : State) : State :=
  let s := closeDay s
  if s.du.day = max16 then raise .clockUnset (disarmDetection (beginDay 0 0 s)) else beginDay (s.du.day + 1) 0 s

/-- One clock advance (R119). -/
def advanceClock (s : State) : State :=
  if s.du.day = 0 then s
  else
    let s := accrueSecond s
    if s.du.sec + 1 < daySeconds then settleSpans (evalSchedule (s.withDu { s.du with sec := s.du.sec + 1 }))
    else rollover s

/-- A same-day jump of TIME_SET (R120). -/
def jumpTo (sec : Nat) (s : State) : State :=
  let old := s.du.sec
  let spans := s.du.spans.map (fun x => if x.isOpen then { x with finish := old, isOpen := false } else x)
  let spans := if stopped s && s.sps.schedule.contains sec then
      addSpan sec { start := sec, finish := sec, isOpen := true } spans
    else spans
  settleSpans (evalSchedule (s.withDu { s.du with sec := sec, spans := spans }))

/-- Whether detection is armed: it has a reference (R110). -/
def armed (s : State) : Bool := s.sm.reference.isSome

/-- A TIME_SET taken with detection armed before and after restarts it at the clock after the set (R110). -/
def rearm (was : Bool) (s : State) : State := if was && armed s then armDetection s else s

end Sys2Proof.Machine
end

