-- ==== Sys2Proof/Machine/Admission.lean ====
section
/-! DEFINITION. The admission engine and the inquiry unit (chapters 2 and 4): pre-store checks, record checks, the outcome
gate, the offline policy, inquiries. -/

namespace Sys2Proof.Machine
open Sys2Proof.Config

/-! ### Products and schedule -/

/-- The product entry of a code; a code above 63 names none (R43). -/
def productOf (s : State) (code : Nat) : ProductEntry := s.sps.products.getD code ProductEntry.unused

/-- The schedule state and its overlays as check 3 and the gate test them (R38, R49). -/
def scheduleDenies (s : State) : Option Reason :=
  if !s.du.sched.running then some .closedHours
  else if s.du.hold.isSome then some .hold
  else if s.du.halt.isSome then some .halted
  else none

/-- A window of V days from a first day: before it, after it, or in it; formed without wrapping (R44, R92). A first day of 0 is
before every day. -/
def windowDenies (today first span : Nat) : Option Reason :=
  if today < first then some .notYetValid
  else if first + span ≤ today then some .expired
  else none

/-- The zone mask has the flag of a zone (R46). -/
def zoneAllows (mask : ZoneMask) (zone : Nat) : Bool := mask.getLsbD zone

/-! ### Record checks (R43 to R48) -/

/-- The fifth record check: a FLEX pass whose entitled days are used up (R45). A record that keeps no day set counts as one
with an empty set, which R45 leaves open (the model's choice, log entry 43). -/
def flexDenies (s : State) (r : PassRecord) (e : ProductEntry) : Bool :=
  let set := r.daySet.getD 0
  e.kind == .flex && !DaySet.has set (s.du.day - r.firstDay) && e.entitled ≤ DaySet.count set

/-- The seventh record check: a last passage at this bank within the lockout (R47). -/
def passbackDenies (s : State) (r : PassRecord) : Bool :=
  match r.last with
  | none => false
  | some p => p.bank == s.sps.bank.bankId && secondsSince p.time s.now < s.sps.bank.lockout

/-- The eighth record check: the rides of today at or above the limit (R48). -/
def ridesDeny (s : State) (r : PassRecord) (e : ProductEntry) : Bool :=
  e.rideLimit != 0 && r.ridesDay == s.du.day && e.rideLimit ≤ r.ridesCount

/-- The third and fourth record checks: the window of the pass, and a record whose first day is 0 is not yet valid on every day
(R44). -/
def recordWindowDenies (today first span : Nat) : Option Reason :=
  if first = 0 then some .notYetValid else windowDenies today first span

/-- The record checks on a record in their order: the reason of the first that fails. -/
def recordDenies (s : State) (r : PassRecord) : Option Reason :=
  let e := productOf s r.product
  match r.status with
  | .refunded => some .refunded
  | .suspended => some .suspended
  | .active =>
    if e.kind = .unused then some .unknownProduct
    else
      match recordWindowDenies s.du.day r.firstDay e.span with
      | some reason => some reason
      | none =>
        if flexDenies s r e then some .exhausted
        else if !zoneAllows e.zoneMask s.sps.bank.zone then some .wrongZone
        else if passbackDenies s r then some .passback
        else if ridesDeny s r e then some .ridesUsed
        else none

/-! ### Outcomes (R13, R49) -/

/-- The lane takes an outcome: its presentation number is the outcome's, and it is in CHECKING or INQUIRING (R13). -/
def takesOutcome (s : State) (n : LaneNo) (presentation : Nat) : Bool :=
  (s.lane n).presentation == presentation && ((s.lane n).state == .checking || (s.lane n).state == .inquiring)

/-- A denial handed to a lane (R13, R52). -/
def handDenial (n : LaneNo) (presentation : Nat) (r : Reason) (s : State) : State :=
  if takesOutcome s n presentation then deny n r s else s

/-- An admission handed to a lane: WAITING, and the hand-over to the seat meter (R13, R101). -/
def handAdmission (n : LaneNo) (presentation : Nat) (a : Admission) (s : State) : State :=
  if takesOutcome s n presentation then
    joinWaiting n a (modLane n (fun l => { l with state := .waiting, admission := some a }) s)
  else s

/-- The outcome gate (R49). -/
def outcomeGate (n : LaneNo) (presentation : Nat) (a : Admission) (s : State) : State :=
  match scheduleDenies s with
  | some r => handDenial n presentation r s
  | none => handAdmission n presentation a s

/-- The record checks and then the gate (R42, R51). -/
def decideOnRecord (n : LaneNo) (presentation : Nat) (r : PassRecord) (s : State) : State :=
  match recordDenies s r with
  | some reason => handDenial n presentation reason s
  | none => outcomeGate n presentation .storeBacked s

/-! ### The offline policy (R92, R93) -/

/-- An entry of the provisional list for the pass is younger than the lockout (R93). -/
def provisionalDenies (s : State) (pass : Nat) : Bool :=
  s.iqu.provisional.any (fun e => e.pass == pass && secondsSince e.time s.now < s.sps.bank.lockout)

/-- The offline policy's denial of an image, or none where it admits PROVISIONAL (R92). -/
def policyDenies (s : State) (image : List Byte) (origin : Origin) : Option Reason :=
  let e := productOf s (imageProduct image)
  if e.kind = .unused then some .unknownProduct
  else
    match e.policy with
    | .deny => some (match origin with
      | .miss => .unknownPass
      | .storeError => .storeFault)
    | .image =>
      match windowDenies s.du.day (imageFirstDay image) e.span with
      | some r => some r
      | none =>
        if !zoneAllows e.zoneMask s.sps.bank.zone then some .wrongZone
        else if provisionalDenies s (imagePass image) then some .passback
        else none

/-- The offline policy decides a lane (R92). -/
def offlinePolicy (n : LaneNo) (presentation : Nat) (image : List Byte) (origin : Origin) (s : State) : State :=
  match policyDenies s image origin with
  | some r => handDenial n presentation r s
  | none => outcomeGate n presentation .provisional s

/-! ### Inquiries (R82 to R91) -/

def OutFrame.isInquiry : OutFrame → Bool
  | .inquiry .. => true
  | .reply .. | .immediate .. | .event .. | .restarted .. => false

/-- The outgoing queue without an INQUIRY notice that has not begun to leave (R191). -/
def withoutWaitingInquiry : List OutFrame → List OutFrame
  | [] => []
  | head :: rest => head :: rest.filter (fun f => !f.isInquiry)

/-- An inquiry is sent (R83). -/
def sendInquiry (n : LaneNo) (presentation : Nat) (image : List Byte) (s : State) : State :=
  let number := (s.iqu.number + 1) % 256
  let s := sendFrame (.inquiry number (laneNumber n) s.sps.bank.bankId image)
    (s.withQueue (withoutWaitingInquiry s.hlc.queue))
  s.withIqu { s.iqu with
    number := number
    pending := some { number := number, lane := n, presentation := presentation, pass := imagePass image
                      image := image, lanePresent := true, timeout := some (s.ms + s.sps.bank.inquiryTimeout) } }

/-- The lane enters INQUIRING (R13). -/
def enterInquiring (n : LaneNo) (s : State) : State := modLane n (fun l => { l with state := .inquiring }) s

/-- The admission engine hands the inquiry unit a lane (R82, R84). -/
def inquire (n : LaneNo) (presentation : Nat) (image : List Byte) (origin : Origin) (s : State) : State :=
  match origin, s.iqu.link, s.iqu.pending with
  | .storeError, _, _ => offlinePolicy n presentation image .storeError s
  | .miss, .offline, _ => offlinePolicy n presentation image .miss s
  | .miss, .online, none => enterInquiring n (sendInquiry n presentation image s)
  | .miss, .online, some _ =>
    if s.iqu.waiting.length < inquiryWaitCapacity then
      enterInquiring n (s.withIqu { s.iqu with waiting := s.iqu.waiting ++
        [{ lane := n, presentation := presentation, image := image, origin := .miss
           timer := some (s.ms + s.sps.bank.inquiryTimeout) }] })
    else offlinePolicy n presentation image .miss s

/-- The pending inquiry ends: it becomes the last ended inquiry (R85). -/
def endInquiry (p : PendingInquiry) (s : State) : State :=
  s.withIqu { s.iqu with pending := none, lastEnded := some (p.number, p.pass) }

/-- After an inquiry has ended with the link ONLINE, that of the wait list's head is sent (R84, R85). -/
def nextInquiry (s : State) : State :=
  match s.iqu.link, s.iqu.pending, s.iqu.waiting with
  | .online, none, e :: rest => sendInquiry e.lane e.presentation e.image (s.withIqu { s.iqu with waiting := rest })
  | _, _, _ => s

/-- The offline policy applied to the pending inquiry's lane, where it is present (R86, R88, R90). -/
def policyForPending (p : PendingInquiry) (s : State) : State :=
  if p.lanePresent then offlinePolicy p.lane p.presentation p.image .miss s else s

/-- The offline policy applied to each lane of the wait list, in list order (R91). -/
def policyForWaiting : List InquiryWait → State → State
  | [], s => s
  | e :: es, s => policyForWaiting es (offlinePolicy e.lane e.presentation e.image .miss s)

/-- OFFLINE taken while ONLINE settles all inquiry work (R91). -/
def settleInquiries (s : State) : State :=
  let s := s.withIqu { s.iqu with link := .offline }
  let s := match s.iqu.pending with
    | some p => policyForPending p (endInquiry p s)
    | none => s
  let waiting := s.iqu.waiting
  policyForWaiting waiting (s.withIqu { s.iqu with waiting := [] })

/-! ### Images and lookups of lanes (R36, R42) -/

/-- The result of a lane's lookup (R42): discarded unless the presentation is still being checked. -/
def laneResult (n : LaneNo) (presentation : Nat) (r : LookupResult) (s : State) : State :=
  let l := s.lane n
  if l.state = .checking ∧ l.presentation = presentation then
    let image := l.image.getD []
    match r with
    | .error => inquire n presentation image .storeError s
    | .read none _ => inquire n presentation image .miss s
    | .read (some record) _ => decideOnRecord n presentation record s
  else s

/-- A lane's lookup is issued: it waits in the queue, or completes STORE_ERROR at once (R39, R57). -/
def laneLookup (n : LaneNo) (pass : Nat) (s : State) : State :=
  let presentation := (s.lane n).presentation
  if lookupsFail s then laneResult n presentation .error s
  else queueLookup (.lane n presentation) pass false s

/-- The pre-store checks in their order: the reason of the first that fails (R36). -/
def imageDenies (s : State) (image : List Byte) : Option Reason :=
  if s.du.day = 0 then some .clockUnset
  else if imageMalformed image then some .badImage
  else
    match scheduleDenies s with
    | some r => some r
    | none =>
      if (productOf s (imageProduct image)).kind = .unused then some .unknownProduct
      else if s.lsu.deny.contains (imagePass image) then some .revoked
      else if isMember (imagePass image) s then some .inUse
      else none

/-- The admission engine takes an image from a lane in CHECKING (R36, R39, R40). -/
def checkImage (n : LaneNo) (image : List Byte) (s : State) : State :=
  match imageDenies s image with
  | some r => deny n r s
  | none =>
    laneLookup n (imagePass image) (joinSet (imagePass image) (.lane n (s.lane n).presentation) s)

end Sys2Proof.Machine
end

