-- ==== Sys2Proof/Machine/Refund.lean ====
section
/-! DEFINITION. The refund computation (R139, R142 to R148) and the decisions of a quote (R141) and of a commit (R150,
R151). -/

namespace Sys2Proof.Machine
open Sys2Proof.Config

/-- A pass is refundable: its record is not REFUNDED, and its product is CONSECUTIVE or FLEX with refundable yes
(R139). -/
def refundable (r : PassRecord) (e : ProductEntry) : Bool :=
  r.status != .refunded && (e.kind == .consecutive || e.kind == .flex) && e.refundable

/-- The credit of a used day (R143). -/
def usedCredit (s : State) (day : Nat) : Nat :=
  let l := effectiveLoss s day
  if s.sps.bank.threshold ≤ l ∧ 1 ≤ l then l else 0

/-- The credit of the day at an offset of a CONSECUTIVE pass (R144). -/
def consecutiveCredit (s : State) (first : Nat) (set : DaySet) (past k : Nat) : Nat :=
  if DaySet.has set k then usedCredit s (first + k)
  else if first + k < s.du.day then past
  else 1000

/-- The weight of a CONSECUTIVE pass (R144). -/
def consecutiveWeight (s : State) (first : Nat) (set : DaySet) (e : ProductEntry) : Nat :=
  ((List.range e.span).map (consecutiveCredit s first set e.past)).sum

/-- The window of a FLEX pass has ended (R145). -/
def flexEnded (s : State) (first : Nat) (e : ProductEntry) : Bool := first + e.span ≤ s.du.day

/-- The counted offsets of a FLEX pass: the earliest, as many as the entitled days (R145). -/
def flexCounted (set : DaySet) (e : ProductEntry) : List Nat := (DaySet.offsets set).take e.entitled

/-- The weight of a FLEX pass (R145). -/
def flexWeight (s : State) (first : Nat) (set : DaySet) (e : ProductEntry) : Nat :=
  let counted := flexCounted set e
  (e.entitled - counted.length) * (if flexEnded s first e then e.past else 1000)
    + (counted.map (fun k => usedCredit s (first + k))).sum

/-- The gross (R146), for a weight already capped. -/
def grossOf (price weight days : Nat) : Nat := price * weight / (days * 1000)

/-- The amount (R147). -/
def amountOf (gross fee unit : Nat) : Nat := if gross ≤ fee then 0 else (gross - fee) / unit * unit

/-- The full computation for a refundable pass (R142 to R148). -/
def computeRefund (s : State) (r : PassRecord) (e : ProductEntry) : RefundFigures :=
  let set := r.daySet.getD 0
  let first := r.firstDay
  let flex := e.kind = .flex
  let days := if flex then e.entitled else e.span
  let raw := if flex then flexWeight s first set e else consecutiveWeight s first set e
  let weight := min raw (days * 1000)
  let gross := grossOf r.price weight days
  let offsets := List.range e.span
  let unused := if flex then days - (flexCounted set e).length else 0
  { amount := amountOf gross e.fee e.unit
    weight := weight
    gross := gross
    used := if flex then (flexCounted set e).length else (offsets.filter (fun k => DaySet.has set k)).length
    unusedPast :=
      if flex then (if flexEnded s first e then unused else 0)
      else (offsets.filter (fun k => !DaySet.has set k && first + k < s.du.day)).length
    unusedFuture :=
      if flex then (if flexEnded s first e then 0 else unused)
      else (offsets.filter (fun k => !DaySet.has set k && s.du.day ≤ first + k)).length
    today := s.du.day
    price := r.price
    kind := e.kind
    days := days }

/-- The refund amount that a REFUNDED record carries; a device record without one gives a free value (log entry 6). -/
def storedRefund (r : PassRecord) : Nat := r.refund.getD (freeRefund r.passId)

/-- The outcome of a refund request at its lookup's completion, in the order of R141 and R150: a status with its
figures, `ok` with the full computation for a refundable pass. With ALREADY_REFUNDED every figure but A is 0, of which
R141 and R150 leave some open (the model's choice, log entry 60). R141 gives zeros to a quote's reply without figures; that a
commit's STORE_FAULT, NOT_FOUND and NOT_REFUNDABLE, for which R150 says "none", carry them too is the model's choice (log entry
74). -/
def refundOutcome (s : State) : LookupResult → Status × RefundFigures
  | .error => (.storeFault, RefundFigures.zero)
  | .read none _ => (.notFound, RefundFigures.zero)
  | .read (some r) _ =>
    let e := productOf s r.product
    if r.status = .refunded then (.alreadyRefunded, { RefundFigures.zero with amount := storedRefund r })
    else if refundable r e then (.ok, computeRefund s r e)
    else (.notRefundable, RefundFigures.zero)

/-- A quote decided and replied (R141). -/
def decideQuote (k : SlotNo) (result : LookupResult) (s : State) : State :=
  let o := refundOutcome s result
  reply k (.refund o.1 o.2) s

/-- A commit ends as a refusal: both credits released, the hold out of the set, no commit in flight, the reply (R150). The
posting credit is released first, with its grant pass, and then the journal credit, with its own: R150 and R174 state no
order (the model's choice, log entry 48). The reply carries figure fields with every status, zeros where R150 has no figures (the
model's choice, log entry 74). -/
def refuseCommit (k : SlotNo) (st : Status) (f : RefundFigures) (s : State) : State :=
  let s := (leaveSet .refund s).withRu { commit := none }
  reply k (.refund st f) (giveBackJournal (giveBackPosting s))

/-- A commit completes (R151). -/
def completeCommit (c : Commit) (f : RefundFigures) (s : State) : State :=
  let s := enqueueReserved (.refundMark c.pass f.amount) s
  let s := writeReserved s.now (.refund c.pass f.amount f.weight s.du.day) s
  let stamp := s.lastStamp
  reply c.slot (.committed f stamp) ((leaveSet .refund s).withRu { commit := none })

/-- A commit decided at its lookup's completion (R150). -/
def decideCommit (k : SlotNo) (result : LookupResult) (s : State) : State :=
  match s.ru.commit with
  | none => s
  | some c =>
    match refundOutcome s result with
    | (.ok, f) => if f.amount = c.amount then completeCommit c f s else refuseCommit k .quoteChanged f s
    | (st, f) => refuseCommit k st f s

end Sys2Proof.Machine
end

