-- ==== Sys2Proof/Machine/Updates.lean ====
section
/-! DEFINITION. The list unit's decisions (chapter 8): PASS_PUT and the install of an inquiry's record, PASS_MERGE,
PASS_STATUS, PASS_DROP and PASS_READ at their lookup's completion; and the deny list (R168). -/

namespace Sys2Proof.Machine
open Sys2Proof.Config

/-- The record a PUT_INSERT posting carries: the day set's presence by the product entry, no usage stamp (R160). R160 gives the record
that the write makes; that the carried stamp is dropped from the posting already is the model's choice (log entry 70). -/
def insertRecord (s : State) (c : PassRecord) : PassRecord :=
  { c with
    daySet := (match (productOf s c.product).kind with
      | .consecutive | .flex => some (c.daySet.getD 0)
      | .season => none
      | .unused => c.daySet)
    stamp := none }

/-- The rounding unit of a product code; an UNUSED entry's counts as 1 (R157, R163). A stored record can carry a code above 63,
which names no entry: R163 leaves its unit open, and the model takes 1 (the model's choice, log entry 63). -/
def unitOf (s : State) (code : Nat) : Nat :=
  let e := productOf s code
  if e.kind = .unused then 1 else e.unit

/-- A refund amount that is a whole multiple of the rounding unit (R157). -/
def wholeUnits (s : State) (code : Nat) (amount : Option Nat) : Bool := (amount.getD 0) % unitOf s code == 0

/-- The first valid day cannot move under used days (R157). -/
def firstDayLocked (stored carried : PassRecord) : Bool :=
  match stored.daySet with
  | some set => set != 0 && carried.firstDay != stored.firstDay
  | none => false

/-- What a PUT decides (R157). -/
inductive PutDecision where
  | insert (record : PassRecord)
  /-- a PUT_MERGE posting, and the record it gives -/
  | merge (result : PassRecord)
  | tableFull
  | locked (stored : PassRecord)
  | badAmount
  deriving DecidableEq, Repr

/-- The decision of a PUT of a carried record against the forwarded record and occupancy (R157). -/
def decidePut (s : State) (c : PassRecord) (stored : Option PassRecord) (occupied : Nat) : PutDecision :=
  match stored with
  | none =>
    if 4 ≤ occupied then .tableFull
    else if c.status = .refunded ∧ ¬ wholeUnits s c.product c.refund then .badAmount
    else .insert (insertRecord s c)
  | some r =>
    if firstDayLocked r c then .locked r
    else if c.status = .refunded ∧ r.status ≠ .refunded ∧ ¬ wholeUnits s c.product c.refund then .badAmount
    else .merge (applyPutMerge r c)

/-- PASS_PUT at its lookup's completion (R155, R157). A credit that is not used comes back first, with its grant pass, then
STORE_FULL is raised at TABLE_FULL, then the reply joins the queue (the model's choice, log entry 58). The usage stamp of the carried
record is dropped in a PUT_INSERT posting and stays in a PUT_MERGE posting, where no rule reads it (the model's choice, log entry
70). -/
def decidePassPut (k : SlotNo) (raw : RawRecord) (result : LookupResult) (s : State) : State :=
  let c := rawToRecord raw
  match result with
  | .error => refuse k .storeFault (giveBackPosting s)
  | .read stored occupied =>
    match decidePut s c stored occupied with
    | .insert r => reply k (.put .inserted r) (enqueueReserved (.putInsert r) s)
    | .merge r => reply k (.put .merged r) (enqueueReserved (.putMerge c) s)
    | .tableFull =>
      reply k (.tableFull occupied (bucketOf c.passId).val) (raise .storeFull (giveBackPosting s))
    | .locked r => reply k (.locked r) (giveBackPosting s)
    | .badAmount => refuse k .badField (giveBackPosting s)

/-- The install of an inquiry's record at its lookup's completion (R89, R167), with its postings as those of PASS_PUT (log entry 70).
The order of the grant pass of a credit that
comes back, the STORE_FULL of TABLE_FULL and the reply is the model's choice (log entry 58). -/
def decideInstall (k : SlotNo) (classified : Status) (raw : RawRecord) (result : LookupResult) (s : State) : State :=
  let c := rawToRecord raw
  match result with
  | .error => reply k (.answer classified (some .storeFault)) (giveBackPosting s)
  | .read stored occupied =>
    match decidePut s c stored occupied with
    | .insert r => reply k (.answer classified (some .ok)) (enqueueReserved (.putInsert r) s)
    | .merge _ => reply k (.answer classified (some .ok)) (enqueueReserved (.putMerge c) s)
    | .tableFull => reply k (.answer classified (some .tableFull)) (raise .storeFull (giveBackPosting s))
    | .locked _ => reply k (.answer classified (some .firstDayLocked)) (giveBackPosting s)
    | .badAmount => reply k (.answer classified (some .badField)) (giveBackPosting s)

/-- The last passage a PASS_MERGE carries. -/
def mergePassage (m : RawMerge) : Option Passage :=
  if m.lastFlag = 1 then some { time := { day := m.lastDay, sec := m.lastSec }, bank := m.lastBank } else none

/-- The field checks of PASS_MERGE at arrival (R161, R211). -/
def mergeAccepted (m : RawMerge) : Bool :=
  m.passId != 0 && m.dayCount ≤ 16 && m.days.length == m.dayCount && !m.days.contains 0
    && (m.lastFlag == 0 || (m.lastFlag == 1 && m.lastDay != 0 && m.lastSec < daySeconds && m.lastBank != 0))

/-- A listed day is taken: the record keeps a day set and the day lies in [F, F + 63] (R161). -/
def dayTaken (r : PassRecord) (day : Nat) : Bool := r.daySet.isSome && r.firstDay ≤ day && day ≤ r.firstDay + 63

/-- PASS_MERGE at its lookup's completion (R161). A credit that is not used comes back before the reply, as in the decisions
below (the model's choice, log entry 58). The posting carries the taken days in the order listed, each at its first
place, which R161 leaves open (the model's choice, log entry 49). -/
def decideMerge (k : SlotNo) (m : RawMerge) (result : LookupResult) (s : State) : State :=
  match result with
  | .error => refuse k .storeFault (giveBackPosting s)
  | .read none _ => refuse k .notFound (giveBackPosting s)
  | .read (some r) _ =>
    let days := m.days.eraseDups
    let taken := days.filter (dayTaken r)
    let ignored := days.length - taken.length
    if taken.isEmpty ∧ (mergePassage m).isNone then reply k (.merged 0 ignored r) (giveBackPosting s)
    else
      reply k (.merged taken.length ignored (applyMerge r taken (mergePassage m)))
        (enqueueReserved (.merge m.passId taken (mergePassage m)) s)

/-- PASS_STATUS at its lookup's completion (R163). -/
def decideStatus (k : SlotNo) (pass : Nat) (st : PassStatus) (amount : Option Nat) (result : LookupResult)
    (s : State) : State :=
  match result with
  | .error => refuse k .storeFault (giveBackPosting s)
  | .read none _ => refuse k .notFound (giveBackPosting s)
  | .read (some r) _ =>
    if r.status = .refunded then reply k (.passStatus .refunded (some (storedRefund r))) (giveBackPosting s)
    else if r.status = st then reply k (.passStatus st none) (giveBackPosting s)
    else if st = .refunded ∧ (r.price < amount.getD 0 ∨ ¬ wholeUnits s r.product amount) then
      refuse k .badField (giveBackPosting s)
    else reply k (.passStatus st amount) (enqueueReserved (.status pass st amount) s)

/-- PASS_DROP at its lookup's completion (R165). -/
def decideDrop (k : SlotNo) (pass : Nat) (result : LookupResult) (s : State) : State :=
  match result with
  | .error => refuse k .storeFault (giveBackPosting s)
  | .read none _ => refuse k .notFound (giveBackPosting s)
  | .read (some _) _ => reply k (.status .ok) (enqueueReserved (.drop pass) s)

/-- PASS_READ at its lookup's completion (R166). -/
def decideRead (k : SlotNo) (pass : Nat) (result : LookupResult) (s : State) : State :=
  match result with
  | .error => refuse k .storeFault s
  | .read none occupied => reply k (.notFoundRead (bucketOf pass).val occupied) s
  | .read (some r) occupied => reply k (.passRead r (bucketOf pass).val occupied) s

/-! ### The deny list (R168) -/

/-- An ID in its ascending place; an ID already there stays once. -/
def denyInsert (pass : Nat) : List Nat → List Nat
  | [] => [pass]
  | x :: xs => if pass < x then pass :: x :: xs else if pass = x then x :: xs else x :: denyInsert pass xs

end Sys2Proof.Machine
end

