-- ==== Sys2Proof/Machine/Services.lean ====
section
/-! DEFINITION. Lookups that complete (R68, R69), operations of the store port that fail (R60, R61), and the entry to
FAULTED. -/

namespace Sys2Proof.Machine
open Sys2Proof.Config

/-- The result of a SERVICE lookup handed to the block that serves the request in its slot (R69). -/
def serviceResult (k : SlotNo) (result : LookupResult) (s : State) : State :=
  match s.hlc.slots.get k with
  | none => s
  | some slot =>
    match slot.request, slot.progress with
    | .refundQuote _ _, _ => decideQuote k result s
    | .refundCommit _ _ _, _ => decideCommit k result s
    | .passPut _ raw, _ => decidePassPut k raw result s
    | .passMerge _ m, _ => decideMerge k m result s
    | .passStatus _ pass st flag amount, _ =>
      decideStatus k pass ((passStatusOf st).getD .suspended) (if flag = 1 then some amount else none) result s
    | .passDrop _ pass, _ => decideDrop k pass result s
    | .passRead _ pass, _ => decideRead k pass result s
    | .inquiryAnswer _ _ _ (some raw), .install classified => decideInstall k classified raw result s
    | _, _ => s

/-- A lookup's result handed to its requester (R69). -/
def handOver (r : Requester) (result : LookupResult) (s : State) : State :=
  match r with
  | .lane n presentation => laneResult n presentation result s
  | .service k => serviceResult k result s

/-- A SERVICE lookup is issued under a slot: it waits in the queue, or completes STORE_ERROR at once (R57, R155). -/
def serviceLookup (k : SlotNo) (pass : Nat) (occupancy : Bool) (s : State) : State :=
  let s := setProgress k .lookup s
  if lookupsFail s then serviceResult k .error s else queueLookup (.service k) pass occupancy s

/-- The install lookup of an inquiry's record, issued under the slot of its answer (R89, R167). -/
def installLookup (k : SlotNo) (classified : Status) (pass : Nat) (s : State) : State :=
  let s := setProgress k (.install classified) s
  if lookupsFail s then serviceResult k .error s else queueLookup (.service k) pass true s

/-- The result of a completed bucket read: the forwarded record and the forwarded occupancy (R68, R69). -/
def lookupResult (s : State) (l : Lookup) : LookupResult :=
  .read (recordOf (forwarded s l.pass) l.pass) (if l.occupancy then occupancy (forwarded s l.pass) else 0)

/-- A lookup's read completes (R68, R69, R79). -/
def completeLookup (l : Lookup) (s : State) : State :=
  let result := lookupResult s l
  let hit : Nat := if forwardingHit s l.pass then 1 else 0
  let s := countCumulative (fun c => { c with
    lookups := addSat c.lookups 1, forwardingHits := addSat c.forwardingHits hit }) (endOp s)
  handOver l.requester result s

/-- The queued lookups complete STORE_ERROR in queue order (R74; the order is the model's choice, log entry 46). -/
def failLookups : List Lookup → State → State
  | [], s => s
  | l :: ls, s => failLookups ls (handOver l.requester .error s)

/-- The store enters FAULTED: STORE_FAULT is raised; nothing is in flight and the failure count is 0 (R57, R61). -/
def enterFaulted (s : State) : State := raise .storeFault (endOp (s.withPsc { s.psc with state := .faulted }))

/-- The lookups that stood in the queue at the entry to FAULTED complete STORE_ERROR (R74). -/
def failQueued (s : State) : State :=
  let queued := s.psc.lookups
  failLookups queued (s.withPsc { s.psc with lookups := [] })

/-- A posting removed from the queue is reported to the seat meter (R102). -/
def removePosting (s : State) : State := grantPass (removeHead s)

/-- The head posting is removed as lost (R61, R70, R72): its POSTING_LOST record is written first, and then the seat meter
hears that the posting has left. R61 and R102 state no order, so that the record, and not a waiting lane, takes the last free
position of the journal is the model's choice (log entry 62). -/
def loseHead (s : State) : State :=
  match s.psc.postings with
  | [] => s
  | p :: _ => grantPass (postingLost p (removeHead s))

/-- The end of an operation at its second consecutive failure (R61, R75, R76, R77). What the operation itself brings about
comes first, a failed lookup's STORE_ERROR among it, and the queued lookups follow (R74 states no order: the model's choice,
log entry 46). -/
def secondFailure (op : StoreOp) (s : State) : State :=
  let s := enterFaulted s
  failQueued (match op with
    | .lookupRead l => handOver l.requester .error s
    | .postingRead | .postingWrite .. | .closureWrite _ => loseHead s
    | .mountHeader _ | .mountClosure _ => s
    | .recoverHeader k => reply k (.recover .storeFault s.psc.state s.psc.formatNo) s
    | .format k _ => refuse k .storeFault s)

/-- What is issued again after a first failure: a posting cycle begins again with its bucket read (R60). -/
def retryOf : StoreOp → StoreOp
  | .postingWrite .. => .postingRead
  | .lookupRead l => .lookupRead l
  | .postingRead => .postingRead
  | .closureWrite e => .closureWrite e
  | .mountHeader c => .mountHeader c
  | .mountClosure n => .mountClosure n
  | .recoverHeader k => .recoverHeader k
  | .format k st => .format k st

/-- The write of a posting cycle has been issued (R60, R73). -/
def writeIssued : StoreOp → Bool
  | .postingWrite .. | .closureWrite _ => true
  | .lookupRead _ | .postingRead | .mountHeader _ | .mountClosure _ | .recoverHeader _ | .format .. => false

/-- The first failure of an operation: counted as a retry, the posting uncertain if its write was issued, and the
operation issued again at once (R60). -/
def firstFailure (op : StoreOp) (s : State) : State :=
  let s := countCumulative (fun c => { c with retries := addSat c.retries 1 }) s
  let s := if writeIssued op then s.withPsc { s.psc with uncertain := true } else s
  issueOp (retryOf op) (s.withPsc { s.psc with failures := 1 })

/-- The operation at the port fails, reported so or timed out (R60, R61). -/
def failOperation (s : State) : State :=
  match s.psc.op with
  | none => s
  | some x =>
    let s := perhapsWritten x.op s
    selectNext (if s.psc.failures = 0 then firstFailure x.op s else secondFailure x.op s)

/-- A store without a valid header enters FAULTED (R75, R77). -/
def mountFails (s : State) : State := failQueued (enterFaulted s)

/-- The store enters READY with the header of a format number mounted (R57). -/
def enterReady (formatNo : Nat) (s : State) : State :=
  let s := endOp s
  s.withPsc { s.psc with state := .ready, formatNo := formatNo }

/-- The entries of the closure area that R137 takes, without an unsaved mark and in day order; of two positions with one
day the later stands (log entry 30). -/
def storedEntries (s : State) : List ClosureEntry :=
  let taken := (closureArea s).filter (fun e => e.day != 0 && e.lost ≤ e.scheduled && e.local_ ≤ 1000
    && (match e.central with | some c => c ≤ 1000 | none => true))
  taken.foldl (fun log e => insertEntry { e with unsaved := false } log) []

/-- An entry of the log with what the store's entry of its day adds: local figures where it has none of its own, and
L_central where it has none (R129, R134; log entry 47). -/
def ClosureEntry.filledFrom (e stored : ClosureEntry) : ClosureEntry :=
  let f := if e.final then e else stored
  { e with scheduled := f.scheduled, lost := f.lost, local_ := f.local_, final := f.final
           central := e.central.or stored.central }

/-- An entry of the store joins the log (R131); an entry of its day that the log already holds stays and is filled (log
entry 47). -/
def joinStored (log : List ClosureEntry) (stored : ClosureEntry) : List ClosureEntry :=
  match entryOf log stored.day with
  | none => setEntry stored log
  | some e => insertEntry (e.filledFrom stored) log

/-- The closure log rebuilt from the closure area after a cold start (R137). -/
def rebuildLog (s : State) : State := s.withDu { s.du with log := (storedEntries s).foldl joinStored s.du.log }

end Sys2Proof.Machine
end

