-- ==== Sys2Proof/Machine/Supply.lean ====
section
/-! DEFINITION. Supply and restarts (chapter 11): the settling of the main domain's work (R203, R205), the restart, and
the cold start with the settings store (R206). -/

namespace Sys2Proof.Machine
open Sys2Proof.Config

/-! ### Settling the main domain's work -/

/-- A lane's context in OFF (R1, R28): no timer runs and nothing of the presentation is kept; the last passage offsets and
the input levels stay until the restart. -/
def Lane.stopped (l : Lane) : Lane :=
  { l.cleared with state := .off, held := none, suppressed := none, beamStuck := false, readerSilent := false
                   disablePending := false, stateTimer := none, beamTimer := none, silenceTimer := none
                   readsDue := 0 }

/-- A dropped grant's credits are released (R28); the seat meter has stopped, so no grant pass starts. -/
def dropGrant (n : LaneNo) (s : State) : State :=
  match (s.lane n).grant with
  | none => s
  | some g =>
    let s := releaseJournal s
    if g.postingCredit then dropPostingCredit s else s

/-- A lane settles its work and enters OFF (R28). -/
def settleLane (n : LaneNo) (s : State) : State :=
  let s := match (s.lane n).state with
    | .passing => recordPassage n true s
    | .granted => dropGrant n s
    | .off | .disabled | .idle | .reading | .checking | .inquiring | .waiting | .denied | .fault => s
  modLane n Lane.stopped s

def settleLanes : List LaneNo → State → State
  | [], s => s
  | n :: ns, s => settleLanes ns (settleLane n s)

/-- A posting cycle is in flight (R73). -/
def cycleInFlight : StoreOp → Bool
  | .postingRead | .postingWrite .. | .closureWrite _ => true
  | .lookupRead _ | .mountHeader _ | .mountClosure _ | .recoverHeader _ | .format .. => false

/-- The operation in flight ends with the main domain; the posting of a cycle in flight is marked uncertain, and a write
in flight may have been made (R53, R73). -/
def settleStore (s : State) : State :=
  match s.psc.op with
  | none => s
  | some x =>
    let s := endOp (perhapsWritten x.op s)
    if cycleInFlight x.op then s.withPsc { s.psc with uncertain := true } else s

/-- The seat meter stops: the window ends and hands over its figures, the timers stop (R114, R116). -/
def settleMeter (s : State) : State :=
  let s := disarmDetection (endWindow s)
  s.withSm { s.sm with windowTimer := none, waiting := s.sm.waiting.map (fun e => { e with timer := none }) }

/-- The inquiry unit stops its timers (R95). -/
def settleInquiry (s : State) : State :=
  s.withIqu { s.iqu with
    pending := s.iqu.pending.map (fun p => { p with timeout := none })
    waiting := s.iqu.waiting.map (fun e => { e with timer := none }) }

/-- The classes of the EVENT notices in a queue. -/
def eventClasses : List OutFrame → List EventClass
  | [] => []
  | .event c _ _ _ :: rest => c :: eventClasses rest
  | _ :: rest => eventClasses rest

/-- The host link stops: the EVENT notices of the queue are owed, and the queue and the frame being received are lost
(R201). -/
def linkStop (s : State) : State :=
  let s := (eventClasses s.hlc.queue).foldl State.setOwed s
  s.withHlc { s.hlc with queue := [], receiver := .hunt, running := false }

/-- What a supply loss and a PIN or MESSAGE restart settle alike (R203, R205). The main domain does not run when this is
called. -/
def settleWork (s : State) : State :=
  settleInquiry (settleMeter (settleStore (settleLanes allLanes (breakOffWrite (linkStop s)))))

/-- The seat meter reports a declared HALT's end at the loss (R116, R136). -/
def haltLost (s : State) : State :=
  if s.sm.halt.isSome then endHalt s.now (s.withSm { s.sm with halt := none }) else s

/-- The backup stop begins where the setting is yes (R125). -/
def beginBackup (s : State) : State :=
  if s.sps.bank.lossStops then s.withDu { s.du with backup := some s.now } else s

/-- The change to BACKUP (R203). A part that holds RESET has settled its work already (R205). -/
def loseSupply (s : State) : State :=
  let held := s.sps.resetHeld
  let s := beginBackup (s.withSps { s.sps with supply := .backup, resetHeld := false })
  let s := if held then s else haltLost (settleWork s)
  writeFree s.now (.supply .backupEntered) s

/-! ### The start of the part -/

/-- A lane as a restart leaves it: IDLE where it is fitted, with its inputs as they show, else OFF (R2, R4, R29). -/
def startLane (fitted : Bool) (ms stuck period : Nat) (old : Lane) : Lane :=
  if fitted then
    let l := { Lane.started with entryPin := old.entryPin, exitPin := old.exitPin
                                 entryBroken := old.entryPin, exitBroken := old.exitPin
                                 rotation := old.rotation.firstSample ms period
                                 silenceTimer := some (ms + silenceMs) }
    { l with beamTimer := l.beamTimerFrom ms stuck }
  else { Lane.empty .off with entryPin := old.entryPin, exitPin := old.exitPin, rotation := old.rotation }

/-- The lanes started by the sampled straps. -/
def startLanes (s : State) : State :=
  s.withLanes (Lanes.ofFn (fun n =>
    startLane (laneNumber n ≤ fittedLanes s.sps.straps.lanes) s.ms s.sps.bank.beamStuck
      s.sps.bank.filter.period (s.lane n)))

/-- The main domain of the store, the inquiry unit, the refund unit, the active pass set, the journal's credits, the
request slots and the seat meter as a restart leaves them (R78, R80, R117, R138, R171, R201); the mount's header read is
issued (R77). -/
def startBlocks (cold : Bool) (s : State) : State :=
  let s := s.withAe { members := [] }
  let s := s.withPsc { s.psc with
    state := .mounting, mode := modeForLength s.psc.postings.length, lookups := [], credits := 0
    op := some { op := .mountHeader cold, issued := s.ms }, failures := 0, formatNo := 0 }
  let s := s.withIqu { s.iqu with
    link := .offline, pending := none, waiting := [], number := 0, lastEnded := none }
  let s := s.withSm { window := none, windowNo := 0, waiting := [], windowTimer := none, lastPulse := none
                      reference := none, haltTimer := none, halt := none
                      chair := s.sm.chair.firstSample s.ms s.sps.bank.filter.period }
  let s := s.withRu { commit := none }
  let s := s.withJnl { s.jnl with credits := 0 }
  s.withHlc { s.hlc with slots := { s1 := none, s2 := none, s3 := none, s4 := none } }

/-- The window timer starts in TIMER source (R99, R117). -/
def startMeter (s : State) : State := if s.sps.bank.source = .timer then startWindowTimer s else s

/-- The owed EVENT notices at the start of the link (R200). -/
def owedNotices (s : State) : List OutFrame :=
  (allClasses.filter (fun c => s.hlc.owed.getD c.code false)).map (fun c => .event c s.now 1 0)

/-- The host link starts (R200). -/
def linkStart (s : State) : State :=
  s.withHlc { s.hlc with
    running := true, receiver := .hunt, owed := Vector.replicate 14 false
    queue := .restarted s.sps.cause s.sps.epoch s.hlc.flags :: owedNotices s }

/-- Steps 2 to 4 of a restart: the main domain reset, the straps sampled, the blocks started, the link started last
(R205). The link so starts in the event that issues the mount's header read. That no mount ends before the link starts, and that the
flags of RESTARTED so never hold a STORE_FAULT of the mount that begins here (R200), is the model's choice (log entry 67). -/
def bringUp (cold : Bool) (s : State) : State :=
  let s := startBlocks cold s
  let s := startLanes (s.withSps { s.sps with straps := s.pins.straps, filterSince := s.ms, startedAt := s.ms })
  linkStart (armDetection (evalSchedule (startMeter s)))

/-- An epoch advance that waits is saved at step 1 of a restart (R172, R205). -/
def saveOwedEpoch (s : State) : State :=
  if s.sps.epochOwed then takeJob .epoch (s.withSps { s.sps with epochOwed := false }) else s

/-- A restart with its cause (R205): the STOP records it causes, and then its SUPPLY record, are the first written after
it (R136). Of two STOP records HALT comes before POWER (the model's choice, log entry 52). -/
def restart (cause : RestartCause) (s : State) : State :=
  let s := saveOwedEpoch (s.withSps { s.sps with cause := cause, supply := .main, resetHeld := false })
  let s := bringUp false s
  let s := endBackup (endHalt s.now s)
  writeFree s.now (.supply (.running cause)) s

/-- A MESSAGE restart: the work in hand is settled, and the restart runs (R199, R205). -/
def messageRestart (s : State) : State :=
  restart .message (settleWork (s.withSps { s.sps with resetHeld := true }))

/-! ### Cold start (R206) -/

/-- The working copy and the current epoch taken from contents. -/
def SpsState.load (x : SpsState) (c : SettingsContent) : SpsState :=
  { x with bank := c.bank, schedule := c.schedule, products := c.products, epoch := c.epoch }

/-- A save of contents made at the cold start, with its outcome after the one repetition (R207). -/
def SpsState.saveAtOnce (x : SpsState) (content : SettingsContent) (good : Bool) : SpsState :=
  x.setCopy x.target { x.imageFor content with checkOk := good }

/-- The settings store has failed its check: the defaults, epoch 1, and one default save (R206). -/
def SpsState.loadDefaults (x : SpsState) (saved : Bool) : SpsState :=
  (x.load defaultContent).saveAtOnce defaultContent saved

/-- The loading of the settings store: the state after it, and whether the store failed its check (R206). -/
def loadSettings (x : SpsState) (epochSaved defaultSaved : Bool) : SpsState × Bool :=
  match x.newer with
  | none => (x.loadDefaults defaultSaved, true)
  | some c =>
    let image := (x.copy c).content
    if image.epoch < max16 then
      let content := { image with epoch := image.epoch + 1 }
      let y := x.saveAtOnce content epochSaved
      if epochSaved then (y.load content, false) else (y.loadDefaults defaultSaved, true)
    else (x.loadDefaults defaultSaved, true)

/-- Every retained item but the settings at its cold-start value (R78, R80, R137, R168, R171, R179, R193, R195). -/
def clearRetained (s : State) : State :=
  let s := s.withPsc { s.psc with postings := [], uncertain := false }
  let s := s.withIqu { s.iqu with provisional := [] }
  let s := s.withDu { day := 0, sec := 0, sched := .beforeOpen, hold := none, halt := none, backup := none, lost := 0
                      spans := [], log := [] }
  let s := s.withLsu { deny := [] }
  let s := s.withJnl { records := [], credits := 0, nextSeq := 1, lanes := Lanes.ofFn (fun _ => LaneCounters.zero)
                       day := DayCounters.zero, cumulative := Cumulative.zero }
  s.withHlc { s.hlc with flags := Vector.replicate 14 false, owed := Vector.replicate 14 false, floor := defaultFloor
                         levels := defaultLevels, errors := 0 }

/-- A cold start (R206). The classes it raises set their flags alone, for R201 gives the queue as RESTARTED and the owed
marks as clear after a cold start (log entry 18). -/
def coldStarted (epochSaved defaultSaved : Bool) (s : State) : State :=
  let s := clearRetained s
  let loaded := loadSettings s.sps epochSaved defaultSaved
  let s := s.withSps { loaded.1 with supply := .main, cause := .cold, resetHeld := false, retainedLost := false
                                     epochOwed := false, writing := none, queued := [] }
  let s := (if loaded.2 then s.setFlag .settingsLost else s).setFlag .clockUnset
  let s := bringUp true s
  writeFree s.now (.supply (.running .cold)) s

end Sys2Proof.Machine
end

