-- ==== Sys2Proof/Machine/Report.lean ====
section
/-! DEFINITION. The STATUS reply (R197): one summary per block, each read as the block's state stands. -/

namespace Sys2Proof.Machine
open Sys2Proof.Config

/-- Lane summary (R1). -/
def laneSummary (l : Lane) : LaneSummary :=
  { state := l.state, lamp := l.lamp, beamStuck := l.beamStuck, readerSilent := l.readerSilent
    disablePending := l.disablePending, lastOffsets := l.lastOffsets }

/-- The lane holds a member of the active pass set (R40). -/
def laneHolds (s : State) (n : LaneNo) : Bool := s.ae.members.any (fun m => match m.holder with
  | .lane k _ => k == n
  | .refund => false)

/-- Store summary (R57). -/
def storeSummary (s : State) : StoreSummary :=
  { state := s.psc.state, mode := s.psc.mode, lookups := s.psc.lookups.length, postings := s.psc.postings.length
    credits := s.psc.credits, uncertain := s.psc.uncertain, formatNo := s.psc.formatNo }

/-- Inquiry summary (R80). -/
def inquirySummary (s : State) : InquirySummary :=
  { link := s.iqu.link, pending := s.iqu.pending.map (fun p => (p.number, p.lane)), waiting := s.iqu.waiting.length
    lastEnded := s.iqu.lastEnded.map (·.1), provisional := s.iqu.provisional.length }

/-- Seat summary (R96). -/
def seatSummary (s : State) : SeatSummary :=
  { source := s.sps.bank.source, window := s.sm.window.map (fun w => (w.number, w.seats, w.granted))
    waiting := s.sm.waiting.map (·.lane), halt := s.sm.halt, lastPulse := s.sm.lastPulse }

/-- Day summary (R118). -/
def daySummary (s : State) : DaySummary :=
  { clock := s.now, schedule := s.sps.schedule, state := s.du.sched, clockUnset := s.du.day == 0, hold := s.du.hold
    halt := s.du.halt, stopped := stopped s, lost := s.du.lost, scheduled := s.sps.schedule.seconds
    working := workingValue s, logEntries := s.du.log.length
    unsaved := (s.du.log.filter (·.unsaved)).length }

/-- The sequence number that the next record will take (R171, R172). Behind the last sequence of epoch 65,535 no record
follows; the number shown there is 4,294,967,296, whose four bytes are 0 (the model's choice, log entry 50). -/
def nextSequence (s : State) : Nat := if max32 < s.jnl.nextSeq && s.sps.epoch < max16 then 1 else s.jnl.nextSeq

/-- Journal summary (R171). -/
def journalSummary (s : State) : JournalSummary :=
  { records := s.jnl.records.length, credits := s.jnl.credits, head := s.jnl.records.head?.map (·.stamp)
    newest := s.jnl.records.getLast?.map (·.stamp), epoch := s.sps.epoch, nextSeq := nextSequence s }

/-- The kind and tag that a slot lists; kind 0 for a free slot (12.1). -/
def slotListing (x : Option Slot) : Nat × Nat := (x.map (fun slot => requestKindTag slot.request)).getD (0, 0)

/-- Link summary (R197). That the frame at the head, which has begun to leave, counts among the frames in the outgoing queue is the
model's choice (log entry 71). -/
def linkSummary (s : State) : LinkSummary :=
  { slots := { s1 := slotListing s.hlc.slots.s1, s2 := slotListing s.hlc.slots.s2, s3 := slotListing s.hlc.slots.s3
               s4 := slotListing s.hlc.slots.s4 }
    frames := s.hlc.queue.length, errors := s.hlc.errors, floor := s.hlc.floor, rate := lineRate s.sps.straps.rate }

/-- The whole report (R197). -/
def statusReport (s : State) : StatusReport :=
  { flags := s.hlc.flags
    lanes := Lanes.ofFn (fun n => laneSummary (s.lane n))
    productsUsed := (s.sps.products.toList.filter (fun e => e.kind != .unused)).length
    members := s.ae.members.length
    lanesHolding := Lanes.ofFn (laneHolds s)
    store := storeSummary s
    inquiry := inquirySummary s
    seats := seatSummary s
    day := daySummary s
    commit := s.ru.commit.map (·.pass)
    denyEntries := s.lsu.deny.length
    journal := journalSummary s
    link := linkSummary s
    supply := { supply := s.sps.supply, cause := s.sps.cause, straps := s.sps.straps } }

end Sys2Proof.Machine
end

