-- ==== Sys2Proof/Machine/DayCommands.lean ====
section
/-! DEFINITION. The day unit's requests and CLOCK_ADVANCE (chapter 6). -/

namespace Sys2Proof.Machine
open Sys2Proof.Config

/-- What TIME_SET makes of a valid time: the status and the clock's change (R120, R130). -/
def setClock (day sec : Nat) (s : State) : Status × State :=
  let given : Time := { day := day, sec := sec }
  if s.du.day = 0 then (.ok, settleSpans (beginDay day sec s))
  else if Time.before given s.now then (.timeBackward, s)
  else if given = s.now then (.ok, s)
  else if day = s.du.day then (.ok, rearm (armed s) (jumpTo sec s))
  else (.ok, rearm (armed s) (settleSpans (beginDay day sec (closeDay s))))

/-- TIME_SET (R120). Whether a refusal with BAD_FIELD carries the clock too, R120 and R192 do not decide: that it carries its status
alone is the model's choice (log entry 65). Notices of a day that it closes join the queue before the reply (the model's choice, log
entry 57). -/
def execTimeSet (tag day sec : Nat) (s : State) : Result :=
  .next (takeRequest (.timeSet tag day sec) (fun k s =>
    if day = 0 ∨ daySeconds ≤ sec then refuse k .badField s
    else
      let r := setClock day sec s
      selectNext (reply k (.clock r.1 r.2.now) r.2)) s)

/-- The schedule that a SCHEDULE_SET may set (R121). -/
def scheduleAccepted (openSec closeSec lead : Nat) : Bool :=
  openSec < daySeconds && closeSec < daySeconds && openSec < closeSec && 3600 ≤ closeSec - openSec && lead ≤ 1800

/-- SCHEDULE_SET (R121). -/
def execScheduleSet (tag openSec closeSec lead : Nat) (s : State) : Result :=
  .next (takeRequest (.scheduleSet tag openSec closeSec lead) (fun k s =>
    if scheduleAccepted openSec closeSec lead then
      let x : Schedule := { openSec := openSec, closeSec := closeSec, lead := lead }
      let s := s.withSps { s.sps with schedule := x }
      let s := s.withDu { s.du with lost := min s.du.lost x.seconds }
      let s := settleSpans (evalSchedule s)
      reply k (.schedule x s.du.sched) s
    else refuse k .badField s) s)

/-- HOLD_BEGIN (R123). Notices of the lanes cleared, a LANE_FAULT or a JOURNAL_FULL, join the queue before the reply (the
model's choice, log entry 57). -/
def execHoldBegin (tag cause : Nat) (s : State) : Result :=
  .next (takeRequest (.holdBegin tag cause) (fun k s =>
    match holdCauseOf cause with
    | none => refuse k .badField s
    | some c =>
      match s.du.hold with
      | some h =>
        let h' : Hold := { h with cause := c }
        reply k (.hold (some h')) (s.withDu { s.du with hold := some h' })
      | none =>
        let h : Hold := { cause := c, start := s.now }
        reply k (.hold (some h)) (clearLanes .hold (s.withDu { s.du with hold := some h }))) s)

/-- HOLD_END (R124). R124 names a cause and a hold start for the hold that ended and says nothing of the fields where the hold was
clear: that the reply then carries both fields as zeros, and not its status alone, is the model's choice (log entry 69). A notice
of the STOP record joins the queue before the reply (the model's choice, log entry 57). -/
def execHoldEnd (tag : Nat) (s : State) : Result :=
  .next (takeRequest (.holdEnd tag) (fun k s =>
    match s.du.hold with
    | none => reply k (.hold none) s
    | some h =>
      let s := stopRecord .hold h.start s.now (s.withDu { s.du with hold := none })
      reply k (.hold (some h)) (settleSpans s)) s)

/-- A day that CLOSURE_NOTE may name: today and the 95 days before it, never below 1 (R134). -/
def noteInRange (s : State) (day : Nat) : Bool := day != 0 && day ≤ s.du.day && s.du.day ≤ day + 95

/-- CLOSURE_NOTE (R134). -/
def execClosureNote (tag day loss : Nat) (s : State) : Result :=
  .next (takeRequest (.closureNote tag day loss) (fun k s =>
    if noteInRange s day then
      let old := (entryOf s.du.log day).getD (ClosureEntry.bare day)
      let s := s.withDu { s.du with log := setEntry { old with central := some (min 1000 loss) } s.du.log }
      let s := postClosure day s
      let e := (entryOf s.du.log day).getD (ClosureEntry.bare day)
      selectNext (reply k (.closureNote e (effectiveLoss s day) (!e.unsaved)) s)
    else refuse k .outOfRange s) s)

/-- A count with 0 taken as 1 and a count above the greatest taken as it (R135, R177). -/
def countWithin (greatest count : Nat) : Nat := max 1 (min greatest count)

/-- CLOSURE_GET (R135). -/
def execClosureGet (tag day count : Nat) (s : State) : Result :=
  .next (takeRequest (.closureGet tag day count) (fun k s =>
    let found := s.du.log.filter (fun e => day ≤ e.day)
    let shown := found.take (countWithin 12 count)
    reply k (.closures (shown.map (fun e => (e, effectiveLoss s e.day))) (found.length - shown.length)) s) s)

/-- CLOCK_ADVANCE (R119). It comes each second in both supply states, and the advance of an unset clock, or of a lost
retained domain, is none. -/
def execClockAdvance (s : State) : Result :=
  .next (if s.sps.retainedLost then s else selectNext (advanceClock s))

end Sys2Proof.Machine
end

