-- ==== Sys2Proof/Machine/InquiryCommands.lean ====
section
/-! DEFINITION. The inquiry unit's requests (LINK_STATE, INQUIRY_ANSWER) and timers (chapter 4). -/

namespace Sys2Proof.Machine
open Sys2Proof.Config

/-- LINK_STATE (R81, R91). Notices that the settlement raises, a JOURNAL_FULL of a grant pass among them, join the queue
before the reply (the model's choice, log entry 57). -/
def execLinkState (tag link : Nat) (s : State) : Result :=
  .next (takeRequest (.linkState tag link) (fun k s =>
    match linkStateOf link, s.iqu.link with
    | none, _ => refuse k .badField s
    | some .online, _ => reply k (.link .online) (s.withIqu { s.iqu with link := .online })
    | some .offline, .online => reply k (.link .offline) (settleInquiries s)
    | some .offline, .offline => reply k (.link .offline) s) s)

/-- The classification of an answer's number: matching gives OK, late LATE, any other number STALE (R87). -/
def classify (s : State) (number : Nat) : Status :=
  if s.iqu.pending.map (·.number) = some number then .ok
  else if s.iqu.lastEnded.map (·.1) = some number then .late
  else .stale

/-- The pass of the inquiry that an answer matches, or is late for (R87). -/
def answeredPass (s : State) (number : Nat) : Option Nat :=
  match classify s number with
  | .ok => s.iqu.pending.map (·.pass)
  | .late => s.iqu.lastEnded.map (·.2)
  | _ => none

/-- What the verdict of a matching answer does to the inquiry's lane (R88). -/
def answerLane (v : Verdict) (record : Option RawRecord) (p : PendingInquiry) (s : State) : State :=
  if p.lanePresent then
    match v, record with
    | .admits, some raw => decideOnRecord p.lane p.presentation (rawToRecord raw) s
    | .admits, none => s
    | .refuse, _ => handDenial p.lane p.presentation .notAdmitted s
    | .unreachable, _ => offlinePolicy p.lane p.presentation p.image .miss s
  else s

/-- A matching answer ends the pending inquiry, hands the lane its outcome, and the next inquiry is sent (R85, R88). -/
def matchAnswer (number : Nat) (v : Verdict) (record : Option RawRecord) (s : State) : State :=
  match s.iqu.pending with
  | some p =>
    if p.number = number then nextInquiry (answerLane v record p (endInquiry p s)) else s
  | none => s

/-- The install of an ADMIT record: a credit and a lookup, or install outcome BUSY (R89, R167). -/
def installRecord (k : SlotNo) (classified : Status) (raw : RawRecord) (s : State) : State :=
  if postingGrants s then installLookup k classified raw.passId (claimPosting s)
  else reply k (.answer classified (some .busy)) s

/-- INQUIRY_ANSWER (R87 to R89; log entry 23 for the order of the lane's outcome and the install). The next INQUIRY notice
of a matching answer joins the queue before the reply (the model's choice, log entry 57). -/
def execInquiryAnswer (tag number verdict : Nat) (record : Option RawRecord) (s : State) : Result :=
  .next (takeRequest (.inquiryAnswer tag number verdict record) (fun k s =>
    let classified := classify s number
    match verdictOf verdict, record with
    | none, _ => refuse k .badField s
    | some .admits, none => refuse k .badField s
    | some .admits, some raw =>
      if classified = .stale then reply k (.answer .stale none) s
      else if rawAccepted raw ∧ answeredPass s number = some raw.passId then
        selectNext (installRecord k classified raw (matchAnswer number .admits (some raw) s))
      else refuse k .badField s
    | some .refuse, some _ => refuse k .badField s
    | some .unreachable, some _ => refuse k .badField s
    | some .refuse, none => selectNext (reply k (.answer classified none) (matchAnswer number .refuse none s))
    | some .unreachable, none =>
      selectNext (reply k (.answer classified none) (matchAnswer number .unreachable none s))) s)

/-- INQUIRY_TIMEOUT_EXPIRY (R90, R85). -/
def execInquiryTimeoutExpiry (s : State) : Result :=
  .next (if mainOn s then
      match s.iqu.pending with
      | some p =>
        match p.timeout with
        | some t => nextInquiry (policyForPending p (endInquiry p (raise .inquiryTimeout (s.reach t))))
        | none => s
      | none => s
    else s)

/-- INQUIRY_WAIT_EXPIRY (R84). -/
def execInquiryWaitExpiry (n : LaneNo) (s : State) : Result :=
  .next (if mainOn s then
      match s.iqu.waiting.find? (fun e => e.lane == n) with
      | some e =>
        match e.timer with
        | some t =>
          let s := s.reach t
          let s := s.withIqu { s.iqu with waiting := s.iqu.waiting.filter (fun x => x.lane != n) }
          offlinePolicy n e.presentation e.image .miss (raise .inquiryTimeout s)
        | none => s
      | none => s
    else s)

end Sys2Proof.Machine
end

