-- ==== Sys2Proof/Machine/JournalCommands.lean ====
section
/-! DEFINITION. The requests of the journal and counters (chapter 9). -/

namespace Sys2Proof.Machine
open Sys2Proof.Config

/-- JOURNAL_READ (R177). -/
def execJournalRead (tag count : Nat) (s : State) : Result :=
  .next (takeRequest (.journalRead tag count) (fun k s =>
    reply k (.journal (recordsFitting (countWithin 8 count) journalReadBytes s.jnl.records) s.jnl.records.length) s) s)

/-- JOURNAL_RELEASE (R178); a removal is reported to the seat meter (R174). The reply joins the outgoing queue before a
notice that the grant pass raises (the model's choice, log entry 51). -/
def execJournalRelease (tag epoch seq : Nat) (s : State) : Result :=
  .next (takeRequest (.journalRelease tag epoch seq) (fun k s =>
    if epoch = 0 ∨ seq = 0 then refuse k .badField s
    else if s.sps.epoch < epoch then refuse k .stale s
    else
      let kept := s.jnl.records.dropWhile (fun r => r.stamp.atOrBelow { epoch := epoch, seq := seq })
      let removed := s.jnl.records.length - kept.length
      let s := reply k (.released removed kept.length) (s.withJnl { s.jnl with records := kept })
      if removed = 0 then s else grantPass s) s)

/-- COUNTS_GET (R184): scope LANE 0, DAY 1, CUMULATIVE 2 (R211). -/
def execCountsGet (tag scope lane : Nat) (s : State) : Result :=
  .next (takeRequest (.countsGet tag scope lane) (fun k s =>
    match scope with
    | 0 =>
      match laneOf lane with
      | some n => reply k (.laneCounts s.now (s.jnl.lanes.get n)) s
      | none => refuse k .badField s
    | 1 => reply k (.dayCounts s.now s.jnl.day) s
    | 2 => reply k (.cumulative s.now s.jnl.cumulative) s
    | _ => refuse k .badField s) s)

/-- COUNTS_CLEAR (R185). -/
def execCountsClear (tag : Nat) (s : State) : Result :=
  .next (takeRequest (.countsClear tag) (fun k s =>
    reply k (.status .ok) (s.withJnl { s.jnl with lanes := Lanes.ofFn (fun _ => LaneCounters.zero)
                                                  cumulative := Cumulative.zero })) s)

end Sys2Proof.Machine
end

