-- ==== Sys2Proof/Machine/Receiver.lean ====
section
/-! DEFINITION. Receiving frames byte by byte (R187): what the receiver of the host line makes of each byte, and the frames
of the front ends, which have the same form and five kinds of their own (R5, R210). -/

namespace Sys2Proof.Machine

/-- What a byte brings about at the receiver (R187, R188). -/
inductive Received where
  /-- a byte other than the start byte in HUNT -/
  | stray
  /-- the body length lies above 240 -/
  | tooLong
  /-- the last check byte has arrived; `good` says whether the check matches -/
  | complete (kind tag : Nat) (body : List Byte) (good : Bool)
  deriving DecidableEq, Repr

/-- A complete frame of the bytes behind its start byte, with a body of `n` bytes (R187, 12.2). -/
def frameOf (n : Nat) (parts : List Byte) : Received :=
  .complete (field parts 2 1) (field parts 3 1) ((parts.drop 4).take n)
    (crc (parts.take (4 + n)) == field parts (4 + n) 2)

/-- One byte with its stop bit (R187). -/
def receiveByte (r : Receiver) (b : Byte) : Receiver × Option Received :=
  match r with
  | .hunt => if b = 195 then (.frame [], none) else (.hunt, some .stray)
  | .skip => (.skip, none)
  | .frame before =>
    let parts := before ++ [b]
    let n := field parts 0 2
    if parts.length < 2 then (.frame parts, none)
    else if 240 < n then (.skip, some .tooLong)
    else if parts.length < n + 6 then (.frame parts, none)
    else (.hunt, some (frameOf n parts))

/-- The bytes that arrive, up to the first that brings something about. -/
def receive (r : Receiver) : List Byte → Receiver × Option Received
  | [] => (r, none)
  | b :: bs =>
    match receiveByte r b with
    | (after, none) => receive after bs
    | found => found

/-- A whole frame of a front end that is discarded (R5, R210), with whether its check is good: the check differs, its kind is
none of the five, or its body length is not the one of its kind. A length above 240, which R5 does not name, is taken as a
discarded frame without a good check (log entry 55). -/
def discardedFrame (n : LaneNo) (bytes : List Byte) : Option Bool :=
  match (receive .hunt bytes).2 with
  | some (.complete kind _ body good) => if good && (decodeFrontEnd n kind body).isSome then none else some good
  | some .tooLong => some false
  | some .stray | none => none

end Sys2Proof.Machine
end

