-- ==== Sys2Proof/Machine/LaneCommands.lean ====
section
/-! DEFINITION. LANE_MODE, the frames of the front ends, the sensor changes of a lane and its timers (chapter 1). An
expiry of a timer that does not run, and an event of a lane in OFF, have no effect (log entry 21). -/

namespace Sys2Proof.Machine
open Sys2Proof.Config

/-! ### LANE_MODE (R27) -/

/-- DISABLE by the lane's state (R27, R18). -/
def disableLane (n : LaneNo) (s : State) : State :=
  match (s.lane n).state with
  | .idle | .reading | .denied | .fault => enterDisabled n s
  | .checking | .inquiring | .waiting => enterDisabled n (withdraw n s)
  | .granted => enterDisabled n (endGrant n s)
  | .passing => modLane n (fun l => { l with disablePending := true }) s
  | .disabled | .off => s

/-- ENABLE by the lane's state (R27). -/
def enableLane (n : LaneNo) (s : State) : State :=
  match (s.lane n).state with
  | .disabled => if (s.lane n).faulty then enterFault n s else enterIdle n s
  | .passing => modLane n (fun l => { l with disablePending := false }) s
  | .off | .idle | .reading | .checking | .inquiring | .waiting | .granted | .denied | .fault => s

/-- LANE_MODE (R27): mode DISABLE 0, ENABLE 1 (R211). Notices of a cancelled grant or an entry to FAULT join the queue
before the reply (the model's choice, log entry 57). -/
def execLaneMode (tag lane mode : Nat) (s : State) : Result :=
  .next (takeRequest (.laneMode tag lane mode) (fun k s =>
    match laneOf lane with
    | none => refuse k .badField s
    | some n =>
      if 2 ≤ mode then refuse k .badField s
      else if fittedLanes s.sps.straps.lanes < lane then refuse k .outOfRange s
      else
        let s := if mode = 0 then disableLane n s else enableLane n s
        reply k (.lane (s.lane n).state) s) s)

/-! ### Frames of the front end (R5 to R11) -/

/-- What FIELD_ENTER does in the lane's state (R8). -/
def enterField (n : LaneNo) (medium : Nat) (s : State) : State :=
  let l := s.lane n
  match l.state with
  | .idle => if l.suppressed = some medium then s else modLane n (fun l => l.present medium) s
  | .reading =>
    if l.suppressed = some medium ∨ l.medium = some medium then s else modLane n (fun l => l.present medium) s
  | .denied | .granted | .passing =>
    if l.medium = some medium then modLane n (fun l => { l with mediumPresent := true }) s
    else modLane n (fun l => { l with held := some medium }) s
  | .checking | .inquiring | .waiting | .fault | .disabled | .off => s

/-- FIELD_ENTER (R8). -/
def execFieldEnter (n : LaneNo) (medium : Nat) (s : State) : Result :=
  .next (if liveLane s n then enterField n medium (heard n s) else s)

/-- IMAGE (R10, R30): the pass ID and product code enter the lane context with the image. -/
def execImage (n : LaneNo) (bytes : List Byte) (s : State) : Result :=
  .next (if liveLane s n then
      let s := heard n s
      if (s.lane n).state = .reading then
        selectNext (checkImage n bytes (modLane n (fun l =>
          { l with state := .checking, image := some bytes, pass := some (imagePass bytes, imageProduct bytes)
                   readFailures := 0, suppressed := none }) s))
      else s
    else s)

/-- READ_FAIL (R9). -/
def execReadFail (n : LaneNo) (s : State) : Result :=
  .next (if liveLane s n then
      let s := heard n s
      if (s.lane n).state = .reading then failedRead n s else s
    else s)

/-- What FIELD_LEAVE does in the lane's state, after the suppressed medium has gone (R11). -/
def leaveField (n : LaneNo) (s : State) : State :=
  match (s.lane n).state with
  | .reading => enterIdle n s
  | .checking | .inquiring | .waiting => enterIdle n (withdraw n s)
  | .granted | .passing | .denied => modLane n (fun l => { l with held := none }) s
  | .idle | .fault | .disabled | .off => s

/-- FIELD_LEAVE (R11). -/
def execFieldLeave (n : LaneNo) (s : State) : Result :=
  .next (if liveLane s n then
      leaveField n (modLane n (fun l => { l with suppressed := none, mediumPresent := false }) (heard n s))
    else s)

/-- FE_STATUS (R25). -/
def execFeStatus (n : LaneNo) (s : State) : Result :=
  .next (if liveLane s n then
      faultRemoved n (modLane n (fun l => { l with readerSilent := false }) (heard n s))
    else s)

/-- FE_FRAME_DISCARDED: a failed read in READING; a frame with a good check restarts the silence timer (R5). A frame that
R210 does not discard is one of the five kinds' and not this command's (log entry 55). -/
def execFeFrameDiscarded (n : LaneNo) (bytes : List Byte) (s : State) : Result :=
  .next (match liveLane s n, discardedFrame n bytes with
    | true, some goodCheck =>
      let s := if goodCheck then heard n s else s
      if (s.lane n).state = .reading then failedRead n s else s
    | _, _ => s)

/-- FE_FRAME_GAP: a frame broken off counts as a failed read in READING (R5; log entry 24). -/
def execFeFrameGap (n : LaneNo) (s : State) : Result :=
  .next (if liveLane s n && (s.lane n).state == .reading then failedRead n s else s)

/-- FE_READ_SEND: a READ that is due starts to leave (R6). -/
def execFeReadSend (n : LaneNo) (s : State) : Result :=
  .next (if liveLane s n then modLane n (fun l => { l with readsDue := l.readsDue - 1 }) s else s)

/-- SILENCE_TIMER_EXPIRY (R25, R26). -/
def execSilenceTimerExpiry (n : LaneNo) (s : State) : Result :=
  .next (match liveLane s n, (s.lane n).silenceTimer with
    | true, some t =>
      faultAdded n (modLane n (fun l => { l with readerSilent := true, silenceTimer := none }) (s.reach t))
    | _, _ => s)

/-! ### Sensor changes (R3, R4, R17, R19, R20, R24) -/

/-- The state timer of a live lane that stands in a state, where it runs. -/
def stateTimerIn (s : State) (n : LaneNo) (st : LaneState) : Timer :=
  if liveLane s n ∧ (s.lane n).state = st then (s.lane n).stateTimer else none

/-- The lane's grant or passage at a change of one of its inputs accepted at `time`: a pass-through time or a passing limit
that runs out before then has run out (R3, R17, R22); at equal times the commands' order decides (log entry 54). -/
def lapse (n : LaneNo) (time : Nat) (s : State) : State :=
  match liveLane s n, (s.lane n).state, (s.lane n).stateTimer with
  | true, .granted, some t => if t < time then expireGrant n (s.reach t) else s
  | true, .passing, some t => if t < time then abandonPassage n (s.reach t) else s
  | _, _, _ => s

/-- The state in which the lane finds a change accepted at `time`: what lapsed before has lapsed, and the clock stands at
that time. -/
def atChange (n : LaneNo) (time : Nat) (s : State) : State := (lapse n time s).reach time

/-- ENTRY_BEAM_BREAK (R3, R17, R22, R24). A lane in OFF does not sample: its pin alone shows the change. A level that the first
sample of the part shows is taken without an event (R4). -/
def execEntryBeamBreak (n : LaneNo) (seen held : Nat) (s : State) : Result :=
  .next (match liveLane s n, s.acceptAt seen held with
    | false, _ => modLane n (fun l => { l with entryPin := true }) s
    | true, none =>
      if s.firstShows seen held then
        beamStoodBroken n (modLane n (fun l => { l with entryPin := true, entryBroken := true }) s)
      else s
    | true, some time =>
      if (s.lane n).entryBroken then s
      else
        let s := modLane n (fun l => { l with entryPin := true, entryBroken := true }) (atChange n time s)
        if (s.lane n).state = .granted then enterPassing n s else beamBreakIdle n s)

/-- ENTRY_BEAM_CLEAR (R3, R4, R17, R22, R24). -/
def execEntryBeamClear (n : LaneNo) (seen held : Nat) (s : State) : Result :=
  .next (match liveLane s n, s.acceptAt seen held with
    | false, _ => modLane n (fun l => { l with entryPin := false }) s
    | true, none =>
      if s.firstShows seen held then
        beamsClear n (modLane n (fun l => { l with entryPin := false, entryBroken := false }) s)
      else s
    | true, some time =>
      if (s.lane n).entryBroken then
        beamsClear n (modLane n (fun l => { l with entryPin := false, entryBroken := false }) (atChange n time s))
      else s)

/-- EXIT_BEAM_BREAK (R3, R4, R20, R22, R24). -/
def execExitBeamBreak (n : LaneNo) (seen held : Nat) (s : State) : Result :=
  .next (match liveLane s n, s.acceptAt seen held with
    | false, _ => modLane n (fun l => { l with exitPin := true }) s
    | true, none =>
      if s.firstShows seen held then
        beamStoodBroken n (modLane n (fun l => { l with exitPin := true, exitBroken := true }) s)
      else s
    | true, some time =>
      if (s.lane n).exitBroken then s
      else
        let s := modLane n (fun l => { l with exitPin := true, exitBroken := true }) (atChange n time s)
        if (s.lane n).state = .passing then
          modLane n (fun l => { l with obs := l.obs.map (fun o => o.noteBreak s.ms) }) s
        else beamBreakIdle n s)

/-- EXIT_BEAM_CLEAR (R3, R4, R19, R20, R22, R24). -/
def execExitBeamClear (n : LaneNo) (seen held : Nat) (s : State) : Result :=
  .next (match liveLane s n, s.acceptAt seen held with
    | false, _ => modLane n (fun l => { l with exitPin := false }) s
    | true, none =>
      if s.firstShows seen held then
        beamsClear n (modLane n (fun l => { l with exitPin := false, exitBroken := false }) s)
      else s
    | true, some time =>
      if (s.lane n).exitBroken then
        let s := modLane n (fun l => { l with exitPin := false, exitBroken := false }) (atChange n time s)
        match (s.lane n).state, (s.lane n).obs with
        | .passing, some o =>
          if o.rotationSeen then selectNext (completePassage n s)
          else modLane n (fun l => { l with obs := some { o with clearAt := some s.ms } }) s
        | .passing, none => s
        | _, _ => beamsClear n s
      else s)

/-- What an accepted rotation pulse does in the lane's state (R19, R23). -/
def rotate (n : LaneNo) (s : State) : State :=
  match (s.lane n).state, (s.lane n).obs with
  | .passing, some o =>
    if o.rotationSeen then intrusion n s
    else
      let s := modLane n (fun l => { l with obs := some { o with rotationSeen := true } }) s
      if (s.lane n).exitBroken then s else selectNext (completePassage n s)
  | _, _ => intrusion n s

/-- ROTATION_PULSE (R3, R4, R19, R22, R23). -/
def execRotationPulse (n : LaneNo) (seen held : Nat) (s : State) : Result :=
  .next (if liveLane s n then
      let x := (s.lane n).rotation
      let note := modLane n (fun l => { l with rotation := s.afterPulse x seen held })
      match (s.pulse x seen held).2 with
      | some time => rotate n (note (atChange n time s))
      | none => note s
    else modLane n (fun l => { l with rotation := { l.rotation with fall := seen + held } }) s)

/-! ### Timers of a lane -/

/-- DENY_DISPLAY_END (R15). -/
def execDenyDisplayEnd (n : LaneNo) (s : State) : Result :=
  .next (match stateTimerIn s n .denied with
    | some t => enterIdle n (modLane n Lane.suppressAtEnd (s.reach t))
    | none => s)

/-- GRANT_EXPIRY (R17). -/
def execGrantExpiry (n : LaneNo) (s : State) : Result :=
  .next (match stateTimerIn s n .granted with
    | some t => expireGrant n (s.reach t)
    | none => s)

/-- PASSING_LIMIT_EXPIRY (R22). -/
def execPassingLimitExpiry (n : LaneNo) (s : State) : Result :=
  .next (match stateTimerIn s n .passing with
    | some t => abandonPassage n (s.reach t)
    | none => s)

/-- BEAM_STUCK_EXPIRY (R24, R26). -/
def execBeamStuckExpiry (n : LaneNo) (s : State) : Result :=
  .next (match liveLane s n, (s.lane n).beamTimer with
    | true, some t =>
      faultAdded n (modLane n (fun l => { l with beamStuck := true, beamTimer := none }) (s.reach t))
    | _, _ => s)

end Sys2Proof.Machine
end

