-- ==== Sys2Proof/Machine/LinkCommands.lean ====
section
/-! DEFINITION. The host link's own requests (IDENT, STATUS, FLAGS_TAKE, NOTICE_LEVELS, RESTART) and the events of the
host line (chapter 10). -/

namespace Sys2Proof.Machine
open Sys2Proof.Config

/-- IDENT (R198). -/
def execIdent (tag : Nat) (s : State) : Result :=
  .next (takeRequest (.ident tag) (fun k s =>
    reply k (.ident s.sps.straps (fittedLanes s.sps.straps.lanes) (lineRate s.sps.straps.rate) s.sps.cause) s) s)

/-- STATUS (R197). -/
def execStatus (tag : Nat) (s : State) : Result :=
  .next (takeRequest (.status tag) (fun k s => reply k (.report (statusReport s)) s) s)

/-- FLAGS_TAKE (R196). -/
def execFlagsTake (tag : Nat) (s : State) : Result :=
  .next (takeRequest (.flagsTake tag) (fun k s =>
    let s' := reply k (.flags s.hlc.flags) s
    s'.withHlc { s'.hlc with flags := Vector.replicate 14 false }) s)

/-- The levels after a list of pairs, a later pair of a class standing (R195). -/
def setLevels (pairs : List (Nat × Nat)) (levels : Vector Nat 14) : Vector Nat 14 :=
  pairs.foldl (fun ls p => ls.setIfInBounds p.1 (min 7 p.2)) levels

/-- NOTICE_LEVELS (R195). -/
def execNoticeLevels (tag floor : Nat) (pairs : List (Nat × Nat)) (s : State) : Result :=
  .next (takeRequest (.noticeLevels tag floor pairs) (fun k s =>
    if pairs.all (fun p => (eventClassOf p.1).isSome) then
      let s := s.withHlc { s.hlc with floor := min 8 floor, levels := setLevels pairs s.hlc.levels }
      reply k (.levels s.hlc.floor s.hlc.levels) s
    else refuse k .badField s) s)

/-- RESTART: the restart itself comes when the reply has left (R199, R205). -/
def execRestart (tag : Nat) (s : State) : Result :=
  .next (takeRequest (.restart tag) (fun k s => reply k (.status .ok) s) s)

/-- DISPATCH_REFUSAL: dispatch's three tests in their order (R189). A frame that passes them is no refusal and is not
this command's (log entry 19). -/
def execDispatchRefusal (kind tag : Nat) (body : List Byte) (s : State) : Result :=
  .next (
    if hostHears s then
      let s' := s.withHlc { s.hlc with receiver := .hunt }
      match decodeRequest kind tag body with
      | .unknownKind => immediateReply kind tag .unknownKind s'
      | .badLength => immediateReply kind tag .badLength s'
      | .request _ => if (freeSlot s').isNone then immediateReply kind tag .busy s' else s
    else s)

/-- A frame, or a run of stray bytes, is discarded with one link error, and the receiver stands as R188 gives. -/
def discardFrame (after : Receiver) (s : State) : State := linkError (s.withHlc { s.hlc with receiver := after })

/-- FRAME_BAD_CHECK: the bytes complete a frame whose check differs (R187, R188). -/
def execFrameBadCheck (bytes : List Byte) (s : State) : Result :=
  .next (match hostListens s, receive s.hlc.receiver bytes with
    | true, (after, some (.complete _ _ _ false)) => discardFrame after s
    | _, _ => s)

/-- FRAME_IDLE_GAP: the bytes leave a frame in FRAME, and the line is idle (R188). -/
def execFrameIdleGap (bytes : List Byte) (s : State) : Result :=
  .next (match hostListens s, receive s.hlc.receiver bytes with
    | true, (.frame _, none) => discardFrame .hunt s
    | _, _ => s)

/-- BODY_LENGTH_OVER: the bytes bring a body length above 240 (R188). -/
def execBodyLengthOver (bytes : List Byte) (s : State) : Result :=
  .next (match hostListens s, receive s.hlc.receiver bytes with
    | true, (after, some .tooLong) => discardFrame after s
    | _, _ => s)

/-- STOP_BIT_MISSING: a byte without its stop bit discards the frame in FRAME; in HUNT it is a stray byte, which the end of
its run counts, and in SKIP it counts nothing (R188). -/
def execStopBitMissing (bytes : List Byte) (s : State) : Result :=
  .next (match hostListens s, receive s.hlc.receiver bytes with
    | true, (.frame _, none) => discardFrame .skip s
    | _, _ => s)

/-- STRAY_RUN_END: in HUNT, one link error however long the run (R188). -/
def execStrayRunEnd (byStart : Bool) (s : State) : Result :=
  .next (if hostListens s && s.hlc.receiver == .hunt then discardFrame (if byStart then .frame [] else .hunt) s else s)

/-- SKIP_IDLE_END (R187). -/
def execSkipIdleEnd (s : State) : Result :=
  .next (if hostListens s && s.hlc.receiver == .skip then s.withHlc { s.hlc with receiver := .hunt } else s)

/-- The request in a slot is RESTART. -/
def slotRestarts (s : State) (k : SlotNo) : Bool :=
  match s.hlc.slots.get k with
  | some { request := .restart _, .. } => true
  | _ => false

/-- FRAME_SENT: the head leaves the queue; a reply frees its slot, and the reply of RESTART brings the MESSAGE restart
(R190, R199, R205). -/
def execFrameSent (s : State) : Result :=
  .next (if hostListens s then
      match s.hlc.queue with
      | [] => s
      | .reply k _ _ _ :: rest =>
        let s' := (s.withQueue rest).setSlot k none
        if slotRestarts s k then messageRestart s' else s'
      | _ :: rest => s.withQueue rest
    else s)

end Sys2Proof.Machine
end

