-- ==== Sys2Proof/Machine/MeterCommands.lean ====
section
/-! DEFINITION. The chair pulse and the seat meter's timers (chapter 5). -/

namespace Sys2Proof.Machine
open Sys2Proof.Config

/-- The end of a declared HALT at a chair pulse (R112). -/
def pulseEndsHalt (s : State) : State :=
  if s.sm.halt.isSome then armDetection (endHalt s.now (s.withSm { s.sm with halt := none })) else s

/-- What an accepted chair pulse does: it is noted; in PULSE source it ends HALT, opens the window, and restarts the
halt-detect timer (R97, R98). -/
def chairArrives (s : State) : State :=
  let s := s.withSm { s.sm with lastPulse := some s.now }
  match s.sps.bank.source with
  | .timer => s
  | .pulse =>
    let s := openWindow (pulseEndsHalt s)
    if armed s then armDetection s else s

/-- CHAIR_PULSE (R97, R98). Without the main domain the seat meter does not sample CHAIR: the pin alone shows the pulse. -/
def execChairPulse (seen held : Nat) (s : State) : Result :=
  .next (if mainOn s then
      let sampled := s.withSm { s.sm with chair := s.afterPulse s.sm.chair seen held }
      match (s.pulse s.sm.chair seen held).2 with
      | some time => chairArrives (sampled.reach time)
      | none => sampled
    else s.withSm { s.sm with chair := { s.sm.chair with fall := seen + held } })

/-- WINDOW_TIMER_EXPIRY (R99). -/
def execWindowTimerExpiry (s : State) : Result :=
  .next (if mainOn s then
      match s.sm.windowTimer with
      | some t => startWindowTimer (openWindow (s.reach t))
      | none => s
    else s)

/-- HALT_DETECT_EXPIRY (R111). -/
def execHaltDetectExpiry (s : State) : Result :=
  .next (if mainOn s then
      match s.sm.haltTimer, s.sm.reference with
      | some t, some start =>
        let s := disarmDetection (s.reach t)
        let s := reportHalt start (s.withSm { s.sm with halt := some start })
        clearLanes .halted (raise .halt s)
      | _, _ => s
    else s)

/-- WAIT_TIMER_EXPIRY (R106, R114). -/
def execWaitTimerExpiry (n : LaneNo) (s : State) : Result :=
  .next (if mainOn s then
      match s.sm.waiting.find? (fun e => e.lane == n) with
      | some e =>
        match e.timer with
        | some t =>
          let s := leaveWaiting n (s.reach t)
          deny n .waitTimeout (countDay (fun c => { c with waitTimeouts := addSat c.waitTimeouts 1 }) s)
        | none => s
      | none => s
    else s)

end Sys2Proof.Machine
end

