-- ==== Sys2Proof/Machine/PassCommands.lean ====
section
/-! DEFINITION. The refund requests (chapter 7), the update requests, PASS_READ and the deny list (chapter 8), at their
arrival. Their decisions at the lookup's completion stand in Refund.lean and Updates.lean. -/

namespace Sys2Proof.Machine
open Sys2Proof.Config

/-- REFUND_QUOTE (R140). -/
def execRefundQuote (tag pass : Nat) (s : State) : Result :=
  .next (takeRequest (.refundQuote tag pass) (fun k s =>
    if pass = 0 then refuse k .badField s
    else if s.du.day = 0 then refuse k .outOfRange s
    else selectNext (serviceLookup k pass false s)) s)

/-- Both credits of a commit claimed; none where either is refused (R149, step 4). -/
def commitCredits (s : State) : Option State :=
  if postingGrants s && journalGrants s then some (claimJournal (claimPosting s)) else none

/-- REFUND_COMMIT (R149). At step 4 a credit granted beside a refused one is released, which is reported to the seat meter
(R102; log entry 22). -/
def execRefundCommit (tag pass amount : Nat) (s : State) : Result :=
  .next (takeRequest (.refundCommit tag pass amount) (fun k s =>
    if pass = 0 ∨ 2000000 < amount then refuse k .badField s
    else if s.du.day = 0 then refuse k .outOfRange s
    else if s.ru.commit.isSome then refuse k .busy s
    else if isMember pass s then refuse k .inUse s
    else
      match commitCredits s with
      | none => refuse k .busy (if postingGrants s || journalGrants s then grantPass s else s)
      | some s' =>
        let s' := joinSet pass .refund s'
        let s' := s'.withRu { commit := some { slot := k, pass := pass, amount := amount, progress := .lookupQueued } }
        selectNext (serviceLookup k pass false s')) s)

/-- An update request claims its posting credit and issues its lookup, or is refused BUSY (R155). -/
def takeUpdate (k : SlotNo) (pass : Nat) (occupancy : Bool) (s : State) : State :=
  if postingGrants s then selectNext (serviceLookup k pass occupancy (claimPosting s)) else refuse k .busy s

/-- PASS_PUT (R155, R156). -/
def execPassPut (tag : Nat) (record : RawRecord) (s : State) : Result :=
  .next (takeRequest (.passPut tag record) (fun k s =>
    if rawAccepted record then takeUpdate k record.passId true s else refuse k .badField s) s)

/-- PASS_MERGE (R155, R161). -/
def execPassMerge (tag : Nat) (merge : RawMerge) (s : State) : Result :=
  .next (takeRequest (.passMerge tag merge) (fun k s =>
    if mergeAccepted merge then takeUpdate k merge.passId false s else refuse k .badField s) s)

/-- The field checks of PASS_STATUS at arrival (R163, R211). -/
def statusAccepted (pass status amountFlag amount : Nat) : Bool :=
  pass != 0 && (passStatusOf status).isSome
    && (if status = 2 then amountFlag == 1 && amount ≤ 2000000 else amountFlag == 0)

/-- PASS_STATUS (R155, R163). -/
def execPassStatus (tag pass status amountFlag amount : Nat) (s : State) : Result :=
  .next (takeRequest (.passStatus tag pass status amountFlag amount) (fun k s =>
    if statusAccepted pass status amountFlag amount then takeUpdate k pass false s else refuse k .badField s) s)

/-- PASS_DROP (R155, R165). -/
def execPassDrop (tag pass : Nat) (s : State) : Result :=
  .next (takeRequest (.passDrop tag pass) (fun k s =>
    if pass = 0 then refuse k .badField s
    else if isMember pass s then refuse k .inUse s
    else takeUpdate k pass false s) s)

/-- PASS_READ (R166). -/
def execPassRead (tag pass : Nat) (s : State) : Result :=
  .next (takeRequest (.passRead tag pass) (fun k s =>
    if pass = 0 then refuse k .badField s else selectNext (serviceLookup k pass true s)) s)

/-- The reply of a deny-list request: its status and the entries after it (R169). -/
def denyReply (k : SlotNo) (st : Status) (s : State) : State := reply k (.denyCount st s.lsu.deny.length) s

/-- DENY_ADD (R169). -/
def execDenyAdd (tag pass : Nat) (s : State) : Result :=
  .next (takeRequest (.denyAdd tag pass) (fun k s =>
    if pass = 0 then denyReply k .badField s
    else if s.lsu.deny.contains pass then denyReply k .ok s
    else if denyCapacity ≤ s.lsu.deny.length then denyReply k .listFull s
    else denyReply k .ok (s.withLsu { deny := denyInsert pass s.lsu.deny })) s)

/-- DENY_REMOVE (R169). -/
def execDenyRemove (tag pass : Nat) (s : State) : Result :=
  .next (takeRequest (.denyRemove tag pass) (fun k s =>
    if pass = 0 then denyReply k .badField s
    else if s.lsu.deny.contains pass then
      denyReply k .ok (s.withLsu { deny := s.lsu.deny.filter (fun x => x != pass) })
    else denyReply k .notFound s) s)

/-- DENY_CLEAR (R169). -/
def execDenyClear (tag : Nat) (s : State) : Result :=
  .next (takeRequest (.denyClear tag) (fun k s =>
    reply k (.denyCleared 0 s.lsu.deny.length) (s.withLsu { deny := [] })) s)

end Sys2Proof.Machine
end

