-- ==== Sys2Proof/Machine/SettingsCommands.lean ====
section
/-! DEFINITION. The settings, product and schedule-free requests of the supply monitor and the admission engine:
BANK_CONFIG, SETTINGS_SAVE, PRODUCT_PUT, PRODUCT_GET; and SETTINGS_WRITE_DONE (chapters 2 and 11). -/

namespace Sys2Proof.Machine
open Sys2Proof.Config

/-- A change of window source at the reply of a BANK_CONFIG (R99, R110, R112; log entry 20). -/
def changeSource (old new : WindowSource) (s : State) : State :=
  match old, new with
  | .pulse, .timer =>
    let s := disarmDetection (startWindowTimer s)
    if s.sm.halt.isSome then endHalt s.now (s.withSm { s.sm with halt := none }) else s
  | .timer, .pulse => armDetection (s.withSm { s.sm with windowTimer := none })
  | .pulse, .pulse | .timer, .timer => s

/-- The working copy with new bank settings: a change of the sensor filter applies from the reply onward (R4, R209). -/
def SpsState.withBank (x : SpsState) (b : BankSettings) (ms : Nat) : SpsState :=
  { x with bank := b, filterSince := if b.filter = x.bank.filter then x.filterSince else ms }

/-- ROTn of every lane and CHAIR under the filter setting from now on (R4, R97, R115). -/
def refilter (s : State) : State :=
  let again := fun (x : PulseInput) => x.refilter s.ms s.sps.bank.filter.period
  (s.withLanes (Lanes.ofFn (fun n => { s.lane n with rotation := again (s.lane n).rotation }))).withSm
    { s.sm with chair := again s.sm.chair }

/-- New bank settings: the working copy holds them, and a new filter setting measures again what it finds being measured. -/
def setBank (b : BankSettings) (s : State) : State :=
  let t := s.withSps (s.sps.withBank b s.ms)
  if b.filter = s.sps.bank.filter then t else refilter t

/-- BANK_CONFIG (R209). A notice of a STOP record that the change writes joins the queue before the reply (the model's
choice, log entry 57). -/
def execBankConfig (tag : Nat) (patch : BankPatch) (s : State) : Result :=
  .next (takeRequest (.bankConfig tag patch) (fun k s =>
    match patchBank patch s.sps.bank with
    | none => refuse k .badField s
    | some b =>
      let old := s.sps.bank.source
      reply k (.bank b) (changeSource old b.source (setBank b s))) s)

/-- SETTINGS_SAVE (R208). -/
def execSettingsSave (tag : Nat) (s : State) : Result :=
  .next (takeRequest (.settingsSave tag) (fun k s =>
    if fullSaving s then refuse k .busy s
    else takeJob (.full k s.sps.workingContent) (setProgress k .saving s)) s)

/-- PRODUCT_PUT (R33). -/
def execProductPut (tag code : Nat) (entry : RawProduct) (s : State) : Result :=
  .next (takeRequest (.productPut tag code entry) (fun k s =>
    match productAccepted entry with
    | some e =>
      if code ≤ 63 then
        reply k (.product e) (s.withSps { s.sps with products := s.sps.products.setIfInBounds code e })
      else refuse k .badField s
    | none => refuse k .badField s) s)

/-- PRODUCT_GET (R34). -/
def execProductGet (tag code : Nat) (s : State) : Result :=
  .next (takeRequest (.productGet tag code) (fun k s =>
    if code ≤ 63 then reply k (.product (productOf s code)) s else refuse k .badField s) s)

/-- SETTINGS_WRITE_DONE (R207, R208). -/
def execSettingsWriteDone (good : Bool) (s : State) : Result := .next (if mainOn s then settingsWritten good s else s)

end Sys2Proof.Machine
end

