-- ==== Sys2Proof/Machine/StoreCommands.lean ====
section
/-! DEFINITION. The pass store's requests (STORE_RECOVER, STORE_FORMAT) and the events of the store port (chapter 3). A
completion or a failure that meets no operation of its kind has no effect (R60; log entry 21). -/

namespace Sys2Proof.Machine
open Sys2Proof.Config

/-- STORE_RECOVER (R75). -/
def execStoreRecover (tag : Nat) (s : State) : Result :=
  .next (takeRequest (.storeRecover tag) (fun k s =>
    match s.psc.state with
    | .ready => reply k (.recover .ok .ready s.psc.formatNo) s
    | .mounting => reply k (.recover .busy .mounting s.psc.formatNo) s
    | .formatting => reply k (.recover .busy .formatting s.psc.formatNo) s
    | .faulted =>
      issueOp (.recoverHeader k) (setProgress k .recovering (s.withPsc { s.psc with state := .mounting }))) s)

/-- A posting is queued, or a lookup is queued or in flight (R76). -/
def storeBusy (s : State) : Bool :=
  !s.psc.postings.isEmpty || !s.psc.lookups.isEmpty || (match s.psc.op with
    | some { op := .lookupRead _, .. } => true
    | _ => false)

/-- STORE_FORMAT (R76). -/
def execStoreFormat (tag : Nat) (s : State) : Result :=
  .next (takeRequest (.storeFormat tag) (fun k s =>
    match s.psc.state with
    | .mounting | .formatting => refuse k .busy s
    | .ready | .faulted =>
      if storeBusy s then refuse k .busy s
      else
        issueOp (.format k .invalidHeader)
          (setProgress k .formatting (s.withPsc { s.psc with state := .formatting, failures := 0 }))) s)

/-- LOOKUP_COMPLETE (R68, R69). -/
def execLookupComplete (s : State) : Result :=
  .next (if mainOn s then
      match s.psc.op with
      | some { op := .lookupRead l, .. } => selectNext (completeLookup l s)
      | _ => s
    else s)

/-- The end of a cycle without a write (R59, R71, R73). -/
def endCycle (s : State) : State := selectNext (removePosting (endOp s))

/-- POSTING_READ_COMPLETE (R59, R70 to R73). -/
def execPostingReadComplete (s : State) : Result :=
  .next (if mainOn s then
      match s.psc.op, s.psc.postings with
      | some { op := .postingRead, .. }, p :: _ =>
        match p.pass with
        | none => s
        | some pass =>
          match applyPosting (readBucket s.store (bucketOf pass)) s.psc.uncertain p with
          | .write k r => issueOp (.postingWrite (bucketOf pass) (Fin.ofNat 4 k) r) s
          | .unchanged => endCycle s
          | .noRecord =>
            endCycle (countCumulative (fun c => { c with usageNoRecord := addSat c.usageNoRecord 1 }) s)
          | .skipped =>
            endCycle (countCumulative (fun c => { c with uncertainSkips := addSat c.uncertainSkips 1 }) s)
          | .lost => selectNext (loseHead (endOp s))
      | _, _ => s
    else s)

/-- POSTING_CYCLE_END: the write stands in the store, and the posting leaves (R59). -/
def execPostingCycleEnd (s : State) : Result :=
  .next (if mainOn s then
      match s.psc.op with
      | some { op := .postingWrite b k r, .. } => endCycle (deviceWrite (.postingWrite b k r) 0 s)
      | some { op := .closureWrite e, .. } => endCycle (deviceWrite (.closureWrite e) 0 s)
      | _ => s
    else s)

/-- STORE_OP_FAILED (R60, R61). -/
def execStoreOpFailed (s : State) : Result := .next (if mainOn s then failOperation s else s)

/-- STORE_OP_TIMEOUT: 50 ms after the issue (R60). -/
def execStoreOpTimeout (s : State) : Result :=
  .next (if mainOn s then
      match s.psc.op with
      | some x => failOperation (s.reach (x.issued + storeTimeoutMs))
      | none => s
    else s)

/-- A lookup that is of a lane and still NORMAL (R63). -/
def promotable (n : LaneNo) (l : Lookup) : Bool :=
  !l.urgent && (match l.requester with
    | .lane m _ => m == n
    | .service _ => false)

/-- LOOKUP_PROMOTION: the lane's queued lookup is 200 ms old (R63). -/
def execLookupPromotion (n : LaneNo) (s : State) : Result :=
  .next (if mainOn s then
      match s.psc.lookups.find? (promotable n) with
      | none => s
      | some l =>
        let s := s.reach (l.queuedAt + promotionMs)
        countCumulative (fun c => { c with promotions := addSat c.promotions 1 })
          (s.withPsc { s.psc with lookups := s.psc.lookups.map (fun x =>
            if promotable n x then { x with urgent := true } else x) })
    else s)

/-- MOUNT_HEADER_READ (R77). At a cold mount the header counts as mounted only when the closure read has completed and the
store enters READY, which the rules leave open (the model's choice, log entry 44). -/
def execMountHeaderRead (s : State) : Result :=
  .next (if mainOn s then
      match s.psc.op with
      | some { op := .mountHeader cold, .. } =>
        match mountedHeader s with
        | none => mountFails s
        | some n => if cold then issueOp (.mountClosure n) (endOp s) else selectNext (enterReady n s)
      | _ => s
    else s)

/-- MOUNT_CLOSURE_READ (R77, R137). -/
def execMountClosureRead (s : State) : Result :=
  .next (if mainOn s then
      match s.psc.op with
      | some { op := .mountClosure n, .. } => selectNext (enterReady n (rebuildLog s))
      | _ => s
    else s)

/-- RECOVER_HEADER_READ (R75). With lookups waiting beside the posting queue head left in place, the order of R67 says what
goes first (the model's choice, log entry 45). -/
def execRecoverHeaderRead (s : State) : Result :=
  .next (if mainOn s then
      match s.psc.op with
      | some { op := .recoverHeader k, .. } =>
        match mountedHeader s with
        | none => failQueued (reply k (.recover .storeFault .faulted s.psc.formatNo) (enterFaulted s))
        | some n => selectNext (reply k (.recover .ok .ready n) (enterReady n s))
      | _ => s
    else s)

/-- The write of a format that follows a completed one; none after the valid header (R76). -/
def FormatStep.following : FormatStep → Option FormatStep
  | .invalidHeader => some (.bucket 0)
  | .bucket b => if h : b.val + 1 < 8192 then some (.bucket ⟨b.val + 1, h⟩) else some .closureArea
  | .closureArea => some .validHeader
  | .validHeader => none

/-- FORMAT_WRITE_COMPLETE (R76). -/
def execFormatWriteComplete (s : State) : Result :=
  .next (if mainOn s then
      match s.psc.op with
      | some { op := .format k st, .. } =>
        let n := newFormatNo s
        let s := deviceWrite (.format k st) n s
        match st.following with
        | some next => issueOp (.format k next) (endOp s)
        | none => selectNext (reply k (.formatted n) (enterReady n s))
      | _ => s
    else s)

end Sys2Proof.Machine
end

