-- ==== Sys2Proof/Machine/SupplyCommands.lean ====
section
/-! DEFINITION. The events of the supply and of the RESET input (chapter 11). An event that R203 to R206 do not give in the
supply state has no effect (log entry 21). -/

namespace Sys2Proof.Machine
open Sys2Proof.Config

/-- SUPPLY_LOSS (R203). -/
def execSupplyLoss (s : State) : Result :=
  .next (if s.sps.supply == .main && !s.sps.retainedLost then loseSupply s else s)

/-- POWER_RETURN (R205). -/
def execPowerReturn (s : State) : Result :=
  .next (if s.sps.supply == .backup && !s.sps.retainedLost then restart .powerReturn s else s)

/-- RESET_ASSERT: the work in hand is settled, and the main domain takes no event until RESET returns high (R205). -/
def execResetAssert (s : State) : Result :=
  .next (if mainOn s then settleWork (s.withSps { s.sps with resetHeld := true }) else s)

/-- RESET_RELEASE (R205). -/
def execResetRelease (s : State) : Result :=
  .next (if s.sps.supply == .main && s.sps.resetHeld && !s.sps.retainedLost then restart .pin s else s)

/-- RETAINED_SUPPLY_LOSS: in BACKUP, the next power-up is a cold start (R204). -/
def execRetainedSupplyLoss (s : State) : Result :=
  .next (if s.sps.supply == .backup then s.withSps { s.sps with retainedLost := true } else s)

/-- COLD_START (R206). -/
def execColdStart (epochSaved defaultSaved : Bool) (s : State) : Result :=
  .next (if s.sps.retainedLost then coldStarted epochSaved defaultSaved s else s)

end Sys2Proof.Machine
end

