-- ==== Sys2Proof/Machine/Dispatch.lean ====
section
/-! DEFINITION. The dispatch: one arm per command, each one direct call of its meaning. -/

namespace Sys2Proof.Machine

def exec (i : Instr) (s : State) : Host.Outcome State Fault Refusal :=
  match i with
  | .ident tag => Sys2Proof.Machine.execIdent tag s
  | .status tag => Sys2Proof.Machine.execStatus tag s
  | .flagsTake tag => Sys2Proof.Machine.execFlagsTake tag s
  | .noticeLevels tag floor pairs => Sys2Proof.Machine.execNoticeLevels tag floor pairs s
  | .restart tag => Sys2Proof.Machine.execRestart tag s
  | .bankConfig tag patch => Sys2Proof.Machine.execBankConfig tag patch s
  | .settingsSave tag => Sys2Proof.Machine.execSettingsSave tag s
  | .productPut tag code entry => Sys2Proof.Machine.execProductPut tag code entry s
  | .productGet tag code => Sys2Proof.Machine.execProductGet tag code s
  | .laneMode tag lane mode => Sys2Proof.Machine.execLaneMode tag lane mode s
  | .timeSet tag day sec => Sys2Proof.Machine.execTimeSet tag day sec s
  | .scheduleSet tag openSec closeSec lead => Sys2Proof.Machine.execScheduleSet tag openSec closeSec lead s
  | .holdBegin tag cause => Sys2Proof.Machine.execHoldBegin tag cause s
  | .holdEnd tag => Sys2Proof.Machine.execHoldEnd tag s
  | .closureNote tag day loss => Sys2Proof.Machine.execClosureNote tag day loss s
  | .closureGet tag day count => Sys2Proof.Machine.execClosureGet tag day count s
  | .storeRecover tag => Sys2Proof.Machine.execStoreRecover tag s
  | .storeFormat tag => Sys2Proof.Machine.execStoreFormat tag s
  | .linkState tag link => Sys2Proof.Machine.execLinkState tag link s
  | .inquiryAnswer tag number verdict record => Sys2Proof.Machine.execInquiryAnswer tag number verdict record s
  | .refundQuote tag pass => Sys2Proof.Machine.execRefundQuote tag pass s
  | .refundCommit tag pass amount => Sys2Proof.Machine.execRefundCommit tag pass amount s
  | .passPut tag record => Sys2Proof.Machine.execPassPut tag record s
  | .passMerge tag merge => Sys2Proof.Machine.execPassMerge tag merge s
  | .passStatus tag pass status amountFlag amount => Sys2Proof.Machine.execPassStatus tag pass status amountFlag amount s
  | .passDrop tag pass => Sys2Proof.Machine.execPassDrop tag pass s
  | .passRead tag pass => Sys2Proof.Machine.execPassRead tag pass s
  | .denyAdd tag pass => Sys2Proof.Machine.execDenyAdd tag pass s
  | .denyRemove tag pass => Sys2Proof.Machine.execDenyRemove tag pass s
  | .denyClear tag => Sys2Proof.Machine.execDenyClear tag s
  | .journalRead tag count => Sys2Proof.Machine.execJournalRead tag count s
  | .journalRelease tag epoch seq => Sys2Proof.Machine.execJournalRelease tag epoch seq s
  | .countsGet tag scope lane => Sys2Proof.Machine.execCountsGet tag scope lane s
  | .countsClear tag => Sys2Proof.Machine.execCountsClear tag s
  | .dispatchRefusal kind tag body => Sys2Proof.Machine.execDispatchRefusal kind tag body s
  | .frameBadCheck bytes => Sys2Proof.Machine.execFrameBadCheck bytes s
  | .frameIdleGap bytes => Sys2Proof.Machine.execFrameIdleGap bytes s
  | .bodyLengthOver bytes => Sys2Proof.Machine.execBodyLengthOver bytes s
  | .stopBitMissing bytes => Sys2Proof.Machine.execStopBitMissing bytes s
  | .strayRunEnd byStart => Sys2Proof.Machine.execStrayRunEnd byStart s
  | .skipIdleEnd => Sys2Proof.Machine.execSkipIdleEnd s
  | .frameSent => Sys2Proof.Machine.execFrameSent s
  | .fieldEnter lane medium => Sys2Proof.Machine.execFieldEnter lane medium s
  | .image lane bytes => Sys2Proof.Machine.execImage lane bytes s
  | .readFail lane => Sys2Proof.Machine.execReadFail lane s
  | .fieldLeave lane => Sys2Proof.Machine.execFieldLeave lane s
  | .feStatus lane => Sys2Proof.Machine.execFeStatus lane s
  | .feFrameDiscarded lane bytes => Sys2Proof.Machine.execFeFrameDiscarded lane bytes s
  | .feFrameGap lane => Sys2Proof.Machine.execFeFrameGap lane s
  | .feReadSend lane => Sys2Proof.Machine.execFeReadSend lane s
  | .silenceTimerExpiry lane => Sys2Proof.Machine.execSilenceTimerExpiry lane s
  | .entryBeamBreak lane seen held => Sys2Proof.Machine.execEntryBeamBreak lane seen held s
  | .entryBeamClear lane seen held => Sys2Proof.Machine.execEntryBeamClear lane seen held s
  | .exitBeamBreak lane seen held => Sys2Proof.Machine.execExitBeamBreak lane seen held s
  | .exitBeamClear lane seen held => Sys2Proof.Machine.execExitBeamClear lane seen held s
  | .rotationPulse lane seen held => Sys2Proof.Machine.execRotationPulse lane seen held s
  | .denyDisplayEnd lane => Sys2Proof.Machine.execDenyDisplayEnd lane s
  | .grantExpiry lane => Sys2Proof.Machine.execGrantExpiry lane s
  | .passingLimitExpiry lane => Sys2Proof.Machine.execPassingLimitExpiry lane s
  | .beamStuckExpiry lane => Sys2Proof.Machine.execBeamStuckExpiry lane s
  | .chairPulse seen held => Sys2Proof.Machine.execChairPulse seen held s
  | .windowTimerExpiry => Sys2Proof.Machine.execWindowTimerExpiry s
  | .haltDetectExpiry => Sys2Proof.Machine.execHaltDetectExpiry s
  | .waitTimerExpiry lane => Sys2Proof.Machine.execWaitTimerExpiry lane s
  | .inquiryTimeoutExpiry => Sys2Proof.Machine.execInquiryTimeoutExpiry s
  | .inquiryWaitExpiry lane => Sys2Proof.Machine.execInquiryWaitExpiry lane s
  | .lookupComplete => Sys2Proof.Machine.execLookupComplete s
  | .postingReadComplete => Sys2Proof.Machine.execPostingReadComplete s
  | .postingCycleEnd => Sys2Proof.Machine.execPostingCycleEnd s
  | .storeOpFailed => Sys2Proof.Machine.execStoreOpFailed s
  | .storeOpTimeout => Sys2Proof.Machine.execStoreOpTimeout s
  | .lookupPromotion lane => Sys2Proof.Machine.execLookupPromotion lane s
  | .mountHeaderRead => Sys2Proof.Machine.execMountHeaderRead s
  | .mountClosureRead => Sys2Proof.Machine.execMountClosureRead s
  | .recoverHeaderRead => Sys2Proof.Machine.execRecoverHeaderRead s
  | .formatWriteComplete => Sys2Proof.Machine.execFormatWriteComplete s
  | .clockAdvance => Sys2Proof.Machine.execClockAdvance s
  | .supplyLoss => Sys2Proof.Machine.execSupplyLoss s
  | .powerReturn => Sys2Proof.Machine.execPowerReturn s
  | .resetAssert => Sys2Proof.Machine.execResetAssert s
  | .resetRelease => Sys2Proof.Machine.execResetRelease s
  | .retainedSupplyLoss => Sys2Proof.Machine.execRetainedSupplyLoss s
  | .coldStart epochSaved defaultSaved => Sys2Proof.Machine.execColdStart epochSaved defaultSaved s
  | .settingsWriteDone good => Sys2Proof.Machine.execSettingsWriteDone good s

end Sys2Proof.Machine
end

