-- ==== Sys2Proof/Machine/Step.lean ====
section
/-! DEFINITION. One step of the machine: the command at the front of the queue is carried out with the queue's rest. On an
empty queue the block idles, and one millisecond of the main clock passes while the main domain runs (log entry 8). -/

namespace Sys2Proof.Machine

/-- One millisecond of the main clock, while the main domain runs (R203, R205). -/
def idle (s : State) : State := if mainOn s then s.withMs (s.ms + 1) else s

/-- One step: three outcomes. -/
def step (s : State) : Host.Outcome State Fault Refusal :=
  match s.pending with
  | [] => .next (idle s)
  | c :: rest => exec c (s.withPending rest)

/-- The state with the command that a word spells at the front of its queue. The opcode table gives no row any bits, so
no word spells a command (log entry 9). -/
def State.withFetchWord (s : State) (nbits w : Nat) : State :=
  match decodeTableWord nbits w with
  | some c => s.withPending (c :: s.pending)
  | none => s

end Sys2Proof.Machine
end

