-- ==== Sys2Proof/WellFormed.lean ====
section
/-! DEFINITION. Well-formed commands: every field of a command fits the width that its layout gives it (12.1, 12.2), a
list has at most the members its layout can carry, an image has its 32 bytes, and a frame at most 247 (R187). A code that names nothing is
well-formed: the owning block refuses it with BAD_FIELD (R211). -/

namespace Sys2Proof

/-- The value fits a field of `bytes` bytes. -/
def fits (bytes n : Nat) : Bool := n < 256 ^ bytes

def RawRecord.wf (r : RawRecord) : Bool :=
  fits 4 r.passId && fits 1 r.product && fits 1 r.status && fits 1 r.flags && fits 1 r.ridesCount
    && fits 2 r.firstDay && fits 2 r.ridesDay && fits 2 r.totalRides && fits 4 r.price
    && fits 2 r.lastDay && fits 4 r.lastSec && fits 1 r.lastBank && fits 2 r.stampEpoch && fits 4 r.stampSeq
    && fits 4 r.refund

def RawProduct.wf (e : RawProduct) : Bool :=
  fits 1 e.kind && fits 2 e.span && fits 1 e.entitled && fits 1 e.rideLimit && fits 1 e.refundable
    && fits 2 e.past && fits 4 e.fee && fits 1 e.unit && fits 1 e.policy

def RawMerge.wf (m : RawMerge) : Bool :=
  fits 4 m.passId && fits 1 m.dayCount && fits 1 m.lastFlag && fits 2 m.lastDay && fits 4 m.lastSec
    && fits 1 m.lastBank && m.days.length ≤ 16 && m.days.all (fits 2)

/-- A marked setting fits its width: 2 bytes for the timer period, the lockout, the inquiry timeout and T, 1 for the
others (12.2). -/
def fitsMarked (bytes : Nat) : Option Nat → Bool
  | none => true
  | some n => fits bytes n

def BankPatch.wf (p : BankPatch) : Bool :=
  fitsMarked 1 p.bankId && fitsMarked 1 p.zone && fitsMarked 1 p.seatCount && fitsMarked 1 p.source
    && fitsMarked 2 p.timerPeriod && fitsMarked 1 p.haltDetect && fitsMarked 1 p.passThrough
    && fitsMarked 1 p.passingLimit && fitsMarked 1 p.denyDisplay && fitsMarked 1 p.waitLimit
    && fitsMarked 2 p.lockout && fitsMarked 1 p.beamStuck && fitsMarked 1 p.filter
    && fitsMarked 2 p.inquiryTimeout && fitsMarked 2 p.threshold && fitsMarked 1 p.lossStops

/-- The checks of one command. -/
def Instr.wf : Instr → Bool
  | .ident t | .status t | .flagsTake t | .restart t | .settingsSave t | .holdEnd t | .storeRecover t
  | .storeFormat t | .denyClear t | .countsClear t => fits 1 t
  | .noticeLevels t f ps => fits 1 t && fits 1 f && ps.length ≤ 14 && ps.all (fun p => fits 1 p.1 && fits 1 p.2)
  | .bankConfig t p => fits 1 t && p.wf
  | .productPut t c e => fits 1 t && fits 1 c && e.wf
  | .productGet t c => fits 1 t && fits 1 c
  | .laneMode t l m => fits 1 t && fits 1 l && fits 1 m
  | .timeSet t d n => fits 1 t && fits 2 d && fits 4 n
  | .scheduleSet t o c l => fits 1 t && fits 4 o && fits 4 c && fits 2 l
  | .holdBegin t c => fits 1 t && fits 1 c
  | .closureNote t d l => fits 1 t && fits 2 d && fits 2 l
  | .closureGet t d c => fits 1 t && fits 2 d && fits 1 c
  | .linkState t l => fits 1 t && fits 1 l
  | .inquiryAnswer t n v r => fits 1 t && fits 1 n && fits 1 v && (match r with | none => true | some r => r.wf)
  | .refundQuote t p => fits 1 t && fits 4 p
  | .refundCommit t p a => fits 1 t && fits 4 p && fits 4 a
  | .passPut t r => fits 1 t && r.wf
  | .passMerge t m => fits 1 t && m.wf
  | .passStatus t p s f a => fits 1 t && fits 4 p && fits 1 s && fits 1 f && fits 4 a
  | .passDrop t p | .passRead t p | .denyAdd t p | .denyRemove t p => fits 1 t && fits 4 p
  | .journalRead t c => fits 1 t && fits 1 c
  | .journalRelease t e n => fits 1 t && fits 2 e && fits 4 n
  | .countsGet t s l => fits 1 t && fits 1 s && fits 1 l
  | .dispatchRefusal k t b => fits 1 k && fits 1 t && b.length ≤ 240
  | .frameBadCheck bs | .frameIdleGap bs | .bodyLengthOver bs | .stopBitMissing bs | .feFrameDiscarded _ bs =>
    bs.length ≤ 247
  | .fieldEnter _ m => fits 8 m
  | .image _ bs => bs.length == 32
  | .strayRunEnd _ | .skipIdleEnd | .frameSent | .readFail _ | .fieldLeave _ | .feStatus _ | .feFrameGap _
  | .feReadSend _ | .silenceTimerExpiry _ | .entryBeamBreak _ _ _ | .entryBeamClear _ _ _ | .exitBeamBreak _ _ _
  | .exitBeamClear _ _ _ | .rotationPulse _ _ _ | .denyDisplayEnd _ | .grantExpiry _ | .passingLimitExpiry _
  | .beamStuckExpiry _ | .chairPulse _ _ | .windowTimerExpiry | .haltDetectExpiry | .waitTimerExpiry _ | .inquiryTimeoutExpiry
  | .inquiryWaitExpiry _ | .lookupComplete | .postingReadComplete | .postingCycleEnd | .storeOpFailed
  | .storeOpTimeout | .lookupPromotion _ | .mountHeaderRead | .mountClosureRead | .recoverHeaderRead
  | .formatWriteComplete | .clockAdvance | .supplyLoss | .powerReturn | .resetAssert | .resetRelease
  | .retainedSupplyLoss | .coldStart _ _ | .settingsWriteDone _ => true

end Sys2Proof
end

