-- ==== Sys2Proof/Safety.lean ====
section
/-! DEFINITION. What a claim about the FL6 is stated in: which parts of the state a command leaves as they are, what a
request that is taken and answered leaves at the host link, and the invariants of a safe state. -/

namespace Sys2Proof.Machine
open Sys2Proof.Config

/-! ### Frames -/

/-- The parts of the state, one for each field of `State`. -/
inductive Part where
  | lanes | ae | psc | iqu | sm | du | ru | lsu | jnl | hlc | sps | pins | store | ms | drawn | pending
  deriving DecidableEq, Repr

/-- A part is the same in two states. -/
def Part.same (s t : State) : Part → Prop
  | .lanes => t.lanes = s.lanes
  | .ae => t.ae = s.ae
  | .psc => t.psc = s.psc
  | .iqu => t.iqu = s.iqu
  | .sm => t.sm = s.sm
  | .du => t.du = s.du
  | .ru => t.ru = s.ru
  | .lsu => t.lsu = s.lsu
  | .jnl => t.jnl = s.jnl
  | .hlc => t.hlc = s.hlc
  | .sps => t.sps = s.sps
  | .pins => t.pins = s.pins
  | .store => t.store = s.store
  | .ms => t.ms = s.ms
  | .drawn => t.drawn = s.drawn
  | .pending => t.pending = s.pending

/-- Nothing but the named parts differs between two states. -/
def OnlyChanges (ps : List Part) (s t : State) : Prop := ∀ p : Part, p ∉ ps → p.same s t

/-! ### Requests taken and answered -/

/-- A request frame is heard, and `k` is the slot it goes into (R187, R189, R190). -/
abbrev SlotFor (s : State) (k : SlotNo) : Prop := hostHears s = true ∧ freeSlot s = some k

/-- The host link with a request taken into a slot, its work at some progress (R190). -/
def HlcState.holding (h : HlcState) (i : Instr) (k : SlotNo) (p : Progress) : HlcState :=
  { h with receiver := .hunt, slots := h.slots.set k (some { request := i, progress := p }) }

/-- The host link after a request was taken into a slot and answered: its reply is the last frame of the outgoing queue,
under the kind and tag of the request (R190 to R192). -/
def HlcState.answered (h : HlcState) (i : Instr) (k : SlotNo) (r : Reply) : HlcState :=
  { h.holding i k .replied with queue := h.queue ++ [.reply k (requestKindTag i).1 (requestKindTag i).2 r] }

/-- A lookup that is issued now joins the lookup queue: the store is MOUNTING or READY (R57, R62). -/
abbrev LookupsQueue (s : State) : Prop := s.psc.state = .mounting ∨ s.psc.state = .ready

/-- A lookup that is issued now completes STORE_ERROR at once: the store is FAULTED or FORMATTING (R57, R74, R76). -/
abbrev LookupsEnd (s : State) : Prop := s.psc.state = .faulted ∨ s.psc.state = .formatting

/-- No lane can be granted a seat: the window has no free seat, or no lane waits (R102). -/
abbrev NoSeatWork (s : State) : Prop := windowFree s = false ∨ s.sm.waiting = []

/-- The state after a grant pass (R102): the pass over the lanes that wait, which makes nothing where none does. -/
def State.granting (s : State) : State := if s.sm.waiting = [] then s else grantPass s

/-- A seat has come back under a window number: to the current window, where that is its number, with a grant pass (R104). -/
def State.seatReturned (s : State) (window : Nat) : State :=
  match s.sm.window with
  | some w =>
    if w.number = window then (s.withSm { s.sm with window := some { w with granted := w.granted - 1 } }).granting else s
  | none => s

/-- The credits of a grant have come back, each with a grant pass, the journal credit first (R17, R22, R102; log entry 59). -/
def State.creditsReturned (s : State) (g : Grant) : State :=
  let t := (s.withJnl { s.jnl with credits := s.jnl.credits - 1 }).granting
  if g.postingCredit then (t.withPsc { t.psc with credits := t.psc.credits - 1 }).granting else t

/-- The inquiry unit after the inquiry of the wait list's head has been sent at a millisecond: the next number, its own timeout
afresh, and the entry gone from the list; with no entry it stays as it is (R83 to R85). -/
def IquState.sent (q : IquState) (ms timeout : Nat) : IquState :=
  match q.waiting with
  | [] => q
  | e :: rest => { q with
      number := (q.number + 1) % 256, waiting := rest
      pending := some { number := (q.number + 1) % 256, lane := e.lane, presentation := e.presentation
                        pass := imagePass e.image, image := e.image, lanePresent := true
                        timeout := some (ms + timeout) } }

/-- The pass store controller with one more lookup at the tail of its queue (R62). -/
def PscState.queued (p : PscState) (r : Requester) (pass ms : Nat) (occupancy : Bool) : PscState :=
  { p with lookups := p.lookups ++ [{ requester := r, pass := pass, urgent := false, queuedAt := ms
                                      occupancy := occupancy }] }

/-- The operation that the table of R67 gives next, where the store is READY with its port free: the first entry of the mode's
column that applies. -/
def State.chosen (s : State) : Option StoreOp :=
  let lookup (f : Lookup → Bool) := (s.psc.lookups.find? f).map StoreOp.lookupRead
  let urgent := lookup (·.urgent)
  let lane := lookup (fun l => match l.requester with
    | .lane .. => true
    | .service _ => false)
  let service := lookup (fun l => match l.requester with
    | .lane .. => false
    | .service _ => true)
  let head := s.psc.postings.head?.map (fun p => match p with
    | .closure e => StoreOp.closureWrite e
    | _ => StoreOp.postingRead)
  match s.psc.mode with
  | .lookupFirst => urgent.or (lane.or (service.or head))
  | .postingFirst => urgent.or (head.or (lane.or service))

/-- The state with the store port served by R67: where the store is READY with no operation in flight, the chosen operation is
issued. A chosen lookup leaves its queue, and the commit that it belongs to has it in flight (R138); a chosen posting stays at
the head. -/
def State.served (s : State) : State :=
  match s.psc.state, s.psc.op, s.chosen with
  | .ready, none, some op =>
    let psc : PscState := { s.psc with op := some { op := op, issued := s.ms } }
    match op with
    | .lookupRead l => { s with
        psc := { psc with lookups := s.psc.lookups.erase l }
        ru := { commit := s.ru.commit.map (fun c =>
          if l.requester = .service c.slot then { c with progress := .lookupInFlight } else c) } }
    | _ => { s with psc := psc }
  | _, _, _ => s

/-- An operation writes the store device (R59, R76). -/
def StoreOp.writes : StoreOp → Bool
  | .postingWrite .. | .closureWrite _ | .format .. => true
  | .lookupRead _ | .postingRead | .mountHeader _ | .mountClosure _ | .recoverHeader _ => false

/-- The reason of the first check of a list that fails (R36, R42). -/
def firstFailing (checks : List (Bool × Reason)) : Option Reason := (checks.find? (·.1)).map (·.2)

/-- Every field of a record fits the width that its slot gives it (12.4). -/
abbrev PassRecord.fits (r : PassRecord) : Prop := r.toRaw.wf = true

/-- A command is a request of the host: its kind is one of those of R210. -/
def isRequest (i : Instr) : Bool := (requestKindTag i).1 != 0

/-- The lane of a command that reports a failed read, and whether the frame had a good check (R5, R9, R210). -/
def failedReadOf : Instr → Option (LaneNo × Bool)
  | .readFail n => some (n, true)
  | .feFrameDiscarded n bytes => (discardedFrame n bytes).map (fun good => (n, good))
  | .feFrameGap n => some (n, false)
  | _ => none

/-- The commands of the supply and of the RESET input, and CLOCK_ADVANCE, which act without the main domain
(R203 to R206, R119). -/
def actsWithoutMain : Instr → Bool
  | .clockAdvance | .supplyLoss | .powerReturn | .resetAssert | .resetRelease | .retainedSupplyLoss | .coldStart _ _ =>
    true
  | _ => false

/-! ### Lanes at a change of state -/

/-- The beam-stuck timer as an entry to IDLE at millisecond `ms` leaves it, with a beam stuck time of `stuck` s (R24). -/
def Lane.beamTimerAt (l : Lane) (ms stuck : Nat) : Timer :=
  if l.entryBroken || l.exitBroken then some (ms + stuck * 1000) else none

/-- A lane after an entry to IDLE: its context is cleared, and a held presentation is taken at once, with a READ due
(R15). -/
def Lane.returned (l : Lane) (ms stuck : Nat) : Lane :=
  match l.held with
  | none => { l with
      state := .idle, medium := none, mediumPresent := false, image := none, pass := none, admission := none
      readFailures := 0, grant := none, obs := none, stateTimer := none, beamTimer := l.beamTimerAt ms stuck }
  | some m => { l with
      state := .reading, medium := some m, mediumPresent := true, image := none, pass := none, admission := none
      readFailures := 0, grant := none, obs := none, stateTimer := none, beamTimer := none, held := none
      presentation := (l.presentation + 1) % 256, readsDue := l.readsDue + 1 }

/-- A lane in DENIED whose display ends at a millisecond (R14). -/
def Lane.shown (l : Lane) (until_ : Nat) : Lane :=
  { l with state := .denied, stateTimer := some until_, admission := none, grant := none, obs := none
           readFailures := 0 }

/-- A lane after an entry to FAULT (R26). -/
def Lane.inFault (l : Lane) : Lane :=
  { l with state := .fault, medium := none, mediumPresent := false, image := none, pass := none, admission := none
           readFailures := 0, grant := none, obs := none, held := none, stateTimer := none, beamTimer := none
           disablePending := false }

/-- A lane after an entry to DISABLED (R27). -/
def Lane.outOfService (l : Lane) : Lane :=
  { l with state := .disabled, held := none, stateTimer := none, beamTimer := none, admission := none, grant := none
           obs := none, readFailures := 0, disablePending := false }

/-- The state timer of a grant or of a passage does not run out before a time (R17, R22). -/
abbrev Lane.inTime (l : Lane) (time : Nat) : Prop :=
  l.state = .granted ∨ l.state = .passing → ∀ t ∈ l.stateTimer, time ≤ t

/-- The day seconds of a halt's backdated span that count as lost (R127): from the halt start, or from 0 where it lies on an
earlier day, to the declaration, within the schedule, and outside the accrued spans. -/
def State.backdated (s : State) (start : Time) : List Nat :=
  (List.range s.du.sec).filter (fun y => (s.du.day != start.day || start.sec ≤ y) && s.sps.schedule.openSec ≤ y &&
    y < s.sps.schedule.closeSec && !s.du.spans.any (fun x => x.start ≤ y && y < x.finish))

/-- The seat meter after an evaluation that gives a schedule state, the clock standing at `now` (R110, R122): an entry to OPEN or
LAST_CALL arms halt detection where the source is PULSE and no HALT is declared, an entry to BEFORE_OPEN or CLOSED disarms it,
and every other evaluation leaves it. -/
def State.meterAt (s : State) (new : SchedState) (now : Time) : SmState :=
  let admits (x : SchedState) : Bool := x == .isOpen || x == .lastCall
  if new = s.du.sched ∨ (admits new && admits s.du.sched) = true then s.sm
  else if admits new = false then { s.sm with reference := none, haltTimer := none }
  else if mainOn s = true ∧ s.sps.bank.source = .pulse ∧ s.sm.halt = none then
    { s.sm with reference := some now, haltTimer := some (s.ms + s.sps.bank.haltDetect * 1000) }
  else s.sm

/-- The seat meter after a TIME_SET of a set clock is taken (R110, R120): the evaluation, and, where detection is armed before and
after it, a new start at the clock after the set. -/
def State.meterAfterSet (s : State) (new : SchedState) (now : Time) : SmState :=
  let m := s.meterAt new now
  if s.sm.reference.isSome = true ∧ m.reference.isSome = true ∧ mainOn s = true ∧ s.sps.bank.source = .pulse ∧
      s.sm.halt = none ∧ (new = .isOpen ∨ new = .lastCall) then
    { s.sm with reference := some now, haltTimer := some (s.ms + s.sps.bank.haltDetect * 1000) }
  else m

/-- A lane with the frame of its front end heard at a millisecond: the silence timer runs for 3 s (R5). -/
def Lane.heardAt (l : Lane) (ms : Nat) : Lane := { l with silenceTimer := some (ms + silenceMs) }

/-- The counters with one more denial of a lane for a reason, and one more in the day's total (R14, R180, R181). -/
def JnlState.denied (j : JnlState) (n : LaneNo) (r : Reason) : JnlState :=
  let c := j.lanes.get n
  { j with
    lanes := j.lanes.set n { c with denials := c.denials.setIfInBounds r.code (addSat (c.denials.getD r.code 0) 1) }
    day := { j.day with denials := addSat j.day.denials 1 } }

/-- The seat meter has cleared its lanes at a millisecond for a reason (R108, R18). Each lane of the waiting list is denied, in
DENIED with its display. Each lane in GRANTED counts an expiry, hands back its seat and its credits and enters DENIED, or FAULT
where a fault cause holds. The passes of these lanes leave the active pass set; every other lane stays as it is. -/
def LanesCleared (r : Reason) (ms : Nat) (s t : State) : Prop :=
  let shown (n : LaneNo) : Lane := (s.lane n).shown (ms + s.sps.bank.denyDisplay * 100)
  let granted := allLanes.filter (fun n => (s.lane n).state == .granted)
  let holding (f : Grant → Bool) : Nat := granted.countP (fun n => (s.lane n).grant.any f)
  t.sm.waiting = [] ∧
    t.sm.window = s.sm.window.map (fun w => { w with granted := w.granted - holding (fun g => g.window == w.number) }) ∧
    t.jnl.credits = s.jnl.credits - holding (fun _ => true) ∧ t.jnl.records = s.jnl.records ∧
    t.psc = { s.psc with credits := s.psc.credits - holding (·.postingCredit) } ∧
    t.ae.members = s.ae.members.filter (fun m =>
      (s.sm.waiting.map (·.lane) ++ granted).all (fun n => m.holder != .lane n (s.lane n).presentation)) ∧
    (∀ e ∈ s.sm.waiting, t.lane e.lane = shown e.lane) ∧
    (∀ n, (s.lane n).state = .granted →
      (t.jnl.lanes.get n).expiries = addSat (s.jnl.lanes.get n).expiries 1 ∧
      t.lane n = (if (s.lane n).beamStuck || (s.lane n).readerSilent then (s.lane n).inFault else shown n)) ∧
    (∀ n, (s.lane n).state ≠ .granted → (∀ e ∈ s.sm.waiting, e.lane ≠ n) →
      t.lane n = s.lane n ∧ t.jnl.lanes.get n = s.jnl.lanes.get n) ∧
    (∀ n, (s.sm.waiting.filter (fun e => e.lane == n)).length = 1 →
      t.jnl.lanes.get n = (s.jnl.denied n r).lanes.get n)

/-- The passages that a supply loss or RESET completes, in lane order: the lanes in PASSING, each with its grant, its admission and
its observations (R28). -/
def State.cut (s : State) : List (LaneNo × Grant × Admission × PassageObs) :=
  allLanes.filterMap (fun n => match (s.lane n).state, (s.lane n).grant, (s.lane n).admission, (s.lane n).obs with
    | .passing, some g, some a, some o => some (n, g, a, o)
    | _, _, _, _ => none)

/-- The pass ID of a lane's context. -/
def State.passOf (s : State) (n : LaneNo) : Nat := ((s.lane n).pass.map (·.1)).getD 0

/-- The record of a passage that is cut short, at its stamp: with POWER_CUT, and with the followers counted so far (R21, R28). -/
def State.cutRecord (s : State) (x : LaneNo × Grant × Admission × PassageObs) (stamp : Stamp) : JRecord :=
  let (n, g, a, o) := x
  let followers := o.breaks - 1
  { stamp := stamp, time := s.now
    body := .passage (a == .provisional) n (s.passOf n) (((s.lane n).pass.map (·.2)).getD 0) g.day (followers != 0) true
      followers }

/-- The USAGE posting of a passage that is cut short, for a STORE_BACKED admission, with the stamp of its record (R21, R28). -/
def State.cutUsage (s : State) (x : LaneNo × Grant × Admission × PassageObs) (stamp : Stamp) : List Posting :=
  let (n, g, a, _) := x
  if a = .storeBacked then [.usage (s.passOf n) g.day s.now s.sps.bank.bankId stamp] else []

/-- The counters with a number of riders at a day second: the riders counter and the hour bin rise together (R181). -/
def DayCounters.withRiders (c : DayCounters) (riders sec : Nat) : DayCounters :=
  { c with riders := addSat c.riders riders
           bins := c.bins.setIfInBounds (sec / 3600) (addSat (c.bins.getD (sec / 3600) 0) riders) }

/-- The active pass set without the member of a lane's presentation (R41). -/
def AeState.without (a : AeState) (h : Holder) : AeState := { members := a.members.filter (fun m => m.holder != h) }

/-! ### The supply and restarts -/

/-- The work in hand of `s` has been settled in `t`, at a supply loss (`lost`) or at a RESET held low or a MESSAGE restart (R203,
R205). Every lane is OFF, the link and the store port stop, and the window ends and hands over its figures (R114). Each lane in PASSING
completes its passage with POWER_CUT, in lane order: its record, for a STORE_BACKED admission its USAGE posting with the record's stamp,
its counts, its pass out of the active pass set, and its offsets kept (R28, R21). A dropped grant gives its credits back and counts
nothing. The posting of a cycle in flight stays at the head with the uncertain mark (R73), and a write in flight is made whole or not at
all. The EVENT notices of the queue are owed (R201). The loss alone changes the supply state, sets the backup stop where the setting is
yes, ends a HALT with its STOP record and writes a SUPPLY record (R116, R125, R136); that the records of the passages come before these,
where R203 leaves the order open, is the model's choice (log entry 26). -/
def WorkSettled (lost : Bool) (s t : State) : Prop :=
  mainOn t = false ∧ (∀ n, (t.lane n).state = .off) ∧ t.hlc.running = false ∧
  t.hlc.queue = [] ∧ t.psc.op = none ∧ t.sm.window = none ∧ t.sm.windowTimer = none ∧ t.sm.haltTimer = none ∧
  t.sm.reference = none ∧ t.sps.writing = none ∧ t.now = s.now ∧ t.lsu = s.lsu ∧ t.du.hold = s.du.hold ∧
  t.du.lost = s.du.lost ∧ t.du.log = s.du.log ∧ t.iqu.provisional = s.iqu.provisional ∧
  t.sps.straps = s.sps.straps ∧ t.sps.cause = s.sps.cause ∧ t.sps.bank = s.sps.bank ∧
  t.sps.schedule = s.sps.schedule ∧ t.sps.products = s.sps.products ∧ t.pins = s.pins ∧ t.ms = s.ms ∧
  t.hlc.floor = s.hlc.floor ∧ t.hlc.levels = s.hlc.levels ∧ t.hlc.errors = s.hlc.errors ∧
  t.jnl.day.denials = s.jnl.day.denials ∧ t.jnl.day.intrusions = s.jnl.day.intrusions ∧
  t.jnl.day.waitTimeouts = s.jnl.day.waitTimeouts ∧
  (let cut := s.cut
   let dropped (f : Grant → Bool) : Nat :=
     allLanes.countP (fun n => decide ((s.lane n).state = .granted) && (s.lane n).grant.any f)
   let backed : Nat := cut.countP (fun x => x.2.2.1 == .storeBacked)
   let followers : Nat := (cut.map (fun x => x.2.2.2.breaks - 1)).sum
   let stamp (k : Nat) : Stamp := { epoch := s.sps.epoch, seq := s.jnl.nextSeq + k }
   let stops : List JBody := if s.sm.halt.isSome then s.du.halt.toList.map (fun h => .stop h s.now .halt) else []
   t.jnl.credits = s.jnl.credits - (cut.length + dropped (fun _ => true)) ∧
   t.psc.credits = s.psc.credits - (backed + dropped (·.postingCredit)) ∧
   t.ae.members = s.ae.members.filter (fun m =>
     cut.all (fun x => m.holder != .lane x.1 (s.lane x.1).presentation)) ∧
   (∀ n, (t.lane n).grant = none ∧ (t.lane n).stateTimer = none ∧ (t.lane n).entryPin = (s.lane n).entryPin ∧
     (t.lane n).exitPin = (s.lane n).exitPin) ∧
   (∀ n g a o, (n, g, a, o) ∈ cut →
     (t.lane n).lastOffsets = (match o.first, o.last with
       | some x, some y => some (x, y)
       | _, _ => none) ∧
     (o.breaks - 1 ≠ 0 → t.hlc.flags.getD EventClass.tailgate.code false = true) ∧
     (let c := s.jnl.lanes.get n
      let one : Nat := if a = .storeBacked then 1 else 0
      t.jnl.lanes.get n = { c with
        passages := addSat c.passages one, provisional := addSat c.provisional (1 - one)
        tailgates := addSat c.tailgates (if o.breaks - 1 = 0 then 0 else 1)
        followers := addSat c.followers (o.breaks - 1) })) ∧
   (∀ n, (∀ x ∈ cut, x.1 ≠ n) →
     t.jnl.lanes.get n = s.jnl.lanes.get n ∧ (t.lane n).lastOffsets = (s.lane n).lastOffsets) ∧
   (cut ≠ [] → t.jnl.day.passages = addSat s.jnl.day.passages backed ∧
     t.jnl.day.provisional = addSat s.jnl.day.provisional (cut.length - backed) ∧
     t.jnl.day.followers = addSat s.jnl.day.followers followers ∧
     t.jnl.day.riders = addSat s.jnl.day.riders (cut.length + followers) ∧
     t.jnl.day.bins = (s.jnl.day.withRiders (cut.length + followers) s.du.sec).bins) ∧
   (let ended (old : Nat) (more : Window → Nat) : Nat := match s.sm.window with
      | some w => if w.counted then addSat old (more w) else old
      | none => old
    t.jnl.day.windows = ended s.jnl.day.windows (fun _ => 1) ∧
     t.jnl.day.seatsOffered = ended s.jnl.day.seatsOffered (·.seats) ∧
     t.jnl.day.seatsGranted = ended s.jnl.day.seatsGranted (·.granted) ∧
     t.jnl.day.endedWaiting = (if s.sm.waiting = [] then s.jnl.day.endedWaiting
       else ended s.jnl.day.endedWaiting (fun _ => 1))) ∧
   (∃ rest, (s.jnl.nextSeq + cut.length ≤ 4294967296 →
       t.jnl.records = s.jnl.records ++ cut.zipIdx.map (fun x => s.cutRecord x.1 (stamp x.2)) ++ rest ∧
       t.psc.postings = s.psc.postings ++ cut.zipIdx.flatMap (fun x => s.cutUsage x.1 (stamp x.2))) ∧
     (lost = false → rest = [] ∧
       t.jnl.cumulative = { s.jnl.cumulative with postingFirst := t.jnl.cumulative.postingFirst }) ∧
     (lost = true → cut.length ≤ s.jnl.credits → s.jnl.records.length + s.jnl.credits + 2 ≤ 1024 →
       s.jnl.nextSeq + s.jnl.credits + 2 ≤ 4294967296 →
       rest = (stops ++ [JBody.supply .backupEntered]).zipIdx.map (fun x =>
         { stamp := stamp (cut.length + x.2), time := s.now, body := x.1 }) ∧
       t.jnl.cumulative = { s.jnl.cumulative with postingFirst := t.jnl.cumulative.postingFirst }))) ∧
  (∃ written, t.jnl.records = s.jnl.records ++ written) ∧ (∃ added, t.psc.postings = s.psc.postings ++ added) ∧
  (∀ x, s.psc.op = some x → (t.store = s.store ∨ (x.op.writes = true ∧ t.store = (deviceWrite x.op 0 s).store)) ∧
    (let cycle := x.op = .postingRead ∨ (∃ b k r, x.op = .postingWrite b k r) ∨ (∃ e, x.op = .closureWrite e)
     (cycle → t.psc.uncertain = true) ∧ (¬ cycle → t.psc.uncertain = s.psc.uncertain))) ∧
  (s.psc.op = none → t.store = s.store ∧ t.psc.uncertain = s.psc.uncertain) ∧
  (∀ c ∈ eventClasses s.hlc.queue, t.hlc.owed.getD c.code false = true) ∧
  (lost = true → t.sps.supply = .backup ∧ t.sm.halt = none ∧
    t.du.halt = (if s.sm.halt.isSome then none else s.du.halt) ∧
    t.du.backup = (if s.sps.bank.lossStops then some s.now else s.du.backup)) ∧
  (lost = false → t.sps.supply = .main ∧ t.sps.resetHeld = true ∧ t.sm.halt = s.sm.halt ∧
    t.du.backup = s.du.backup ∧ t.du.halt = s.du.halt) ∧
  ((∀ n, (s.lane n).state ≠ .passing ∧ (s.lane n).state ≠ .granted) → s.sm.halt = none →
    t.psc.postings = s.psc.postings ∧
    (lost = false → t.jnl.records = s.jnl.records) ∧
    (lost = true → s.jnl.nextSeq ≤ 4294967295 → recordFree s = true → t.jnl.records = s.jnl.records ++
      [{ stamp := s.nextStamp, time := s.now, body := .supply .backupEntered }]))

/-- A restart with a cause leads from `s`, whose work is settled, to `t` (R200, R205). The cause is recorded, the straps are sampled, the
main domain starts again with the store mounting, the link starts with the RESTARTED notice first and behind it one EVENT notice for each
class owed, in class order, and the owed marks are clear. A halt as reported and the backup stop end, each with its STOP record, the
retained state stays, and a SUPPLY record with the cause is written behind the STOP records (R136). The scheduling mode follows the
length of the posting queue (R66), the schedule state is evaluated, halt detection is armed where its conditions hold (R110), and in
TIMER source the window timer starts (R99). A fitted lane takes its beams and ROTn, and the seat meter CHAIR, as they show at the
restart (R4, R97). That the beam inputs show the level of the last command, and ROTn and CHAIR the pulses commanded so far, is the
model's choice (log entries 31 and 53), and so are the start of the link in the event that issues the header read and the STOP record of
the halt before that of the supply stop (log entries 67 and 52). -/
def RestartedBy (cause : RestartCause) (s t : State) : Prop :=
  mainOn t = true ∧ t.sps.cause = cause ∧ t.sps.straps = s.pins.straps ∧
  (∀ n, (t.lane n).state = (if laneNumber n ≤ fittedLanes s.pins.straps.lanes then .idle else .off)) ∧
  t.sps.filterSince = s.ms ∧ t.sps.startedAt = s.ms ∧ t.sm.chair.high = decide (s.ms < s.sm.chair.fall) ∧
  (∀ n, laneNumber n ≤ fittedLanes s.pins.straps.lanes → (t.lane n).entryBroken = (s.lane n).entryPin ∧
    (t.lane n).exitBroken = (s.lane n).exitPin ∧
    (t.lane n).rotation.high = decide (s.ms < (s.lane n).rotation.fall)) ∧
  t.ae.members = [] ∧ t.psc.state = .mounting ∧ t.psc.op = some { op := .mountHeader false, issued := s.ms } ∧
  t.psc.lookups = [] ∧ t.psc.credits = 0 ∧ t.psc.uncertain = s.psc.uncertain ∧ t.psc.postings = s.psc.postings ∧
  t.psc.mode = (if 24 ≤ s.psc.postings.length then .postingFirst else .lookupFirst) ∧
  t.iqu = { s.iqu with link := .offline, pending := none, waiting := [], number := 0, lastEnded := none } ∧
  t.sm.window = none ∧ t.sm.waiting = [] ∧ t.sm.halt = none ∧ t.ru.commit = none ∧ t.jnl.credits = 0 ∧
  (let admits := s.sps.bank.source = .pulse ∧ (t.du.sched = .isOpen ∨ t.du.sched = .lastCall)
   t.du.sched = (if s.du.day = 0 then .beforeOpen else s.sps.schedule.stateAt s.du.sec) ∧
    t.sm.reference = (if admits then some s.now else none) ∧
    t.sm.haltTimer = (if admits then some (s.ms + s.sps.bank.haltDetect * 1000) else none) ∧
    t.sm.windowTimer =
      (if s.sps.bank.source = .timer then some (s.ms + s.sps.bank.timerPeriod * 100) else none)) ∧
  t.hlc.running = true ∧ (∀ k, t.hlc.slots.get k = none) ∧
  t.hlc.queue.head? = some (.restarted cause s.sps.epoch s.hlc.flags) ∧ t.hlc.owed = Vector.replicate 14 false ∧
  (let owed := allClasses.filter (fun c => s.hlc.owed.getD c.code false)
   let stops : List JBody := s.du.halt.toList.map (fun h => .stop h s.now .halt) ++
     s.du.backup.toList.map (fun b => .stop b s.now .power)
   let bodies := stops ++ [.supply (.running cause)]
   let n := s.jnl.records.length
   (∃ raised, eventClasses t.hlc.queue = owed ++ raised) ∧
   (s.jnl.nextSeq + bodies.length ≤ 4294967296 → n + bodies.length ≤ 1024 →
     t.jnl.records = s.jnl.records ++ bodies.zipIdx.map (fun x =>
       { stamp := { epoch := s.sps.epoch, seq := s.jnl.nextSeq + x.2 }, time := s.now, body := x.1 }) ∧
     t.jnl.cumulative = s.jnl.cumulative ∧
     (896 ≤ n ∨ n + bodies.length < 896 → t.hlc.flags = s.hlc.flags ∧ t.hlc.queue =
       .restarted cause s.sps.epoch s.hlc.flags :: owed.map (fun c => .event c s.now 1 0)))) ∧
  t.hlc.floor = s.hlc.floor ∧ t.hlc.levels = s.hlc.levels ∧ t.hlc.errors = s.hlc.errors ∧
  t.lsu = s.lsu ∧ t.now = s.now ∧ t.du.lost = s.du.lost ∧ t.du.log = s.du.log ∧ t.du.hold = s.du.hold ∧
  t.du.halt = none ∧ t.du.backup = none ∧ t.jnl.lanes = s.jnl.lanes ∧ t.jnl.day = s.jnl.day ∧
  t.sps.bank = s.sps.bank ∧ t.sps.schedule = s.sps.schedule ∧ t.sps.products = s.sps.products ∧
  t.store = s.store ∧
  (s.jnl.nextSeq ≤ 4294967295 → s.jnl.records.length < 1024 → s.du.halt = none → s.du.backup = none →
    t.jnl.records = s.jnl.records ++
      [{ stamp := s.nextStamp, time := s.now, body := .supply (.running cause) }])

/-! ### Invariants -/

/-- A stamp lies below another: by epoch, then by sequence (R172). -/
abbrev Stamp.below (a b : Stamp) : Prop := a.epoch < b.epoch ∨ (a.epoch = b.epoch ∧ a.seq < b.seq)

/-- The stamps of the journal rise from the head to the tail, and the next stamp lies above them all (R172). -/
abbrev StampsRise (s : State) : Prop :=
  s.jnl.records.Pairwise (fun a b => a.stamp.below b.stamp) ∧ ∀ r ∈ s.jnl.records, r.stamp.below s.nextStamp

/-- The deny list is ascending, holds no pass ID 0 and has at most 2,048 entries (R168). -/
abbrev DenyListOk (s : State) : Prop :=
  s.lsu.deny.Pairwise (· < ·) ∧ 0 ∉ s.lsu.deny ∧ s.lsu.deny.length ≤ denyCapacity

/-- No window has more seats granted than it has (R100, R103). -/
def WindowOk (s : State) : Prop := ∀ w, s.sm.window = some w → w.granted ≤ w.seats

/-- No pass is in the active pass set twice (R40). -/
abbrev MembersDistinct (s : State) : Prop := (s.ae.members.map (·.pass)).Nodup

/-- While the main domain does not run, every lane is in OFF (R2, R28). -/
def LanesOffWithoutMain (s : State) : Prop := mainOn s = false → ∀ n, (s.lane n).state = .off

/-- The closure log is in day order, at most one entry a day and at most 96 (R131). -/
abbrev LogOk (s : State) : Prop := s.du.log.Pairwise (·.day < ·.day) ∧ s.du.log.length ≤ closureCapacity

/-- The accrued spans are in time order and disjoint, none past the clock, at most 8, and only the last may be open
(R118, R126). -/
abbrev SpansOk (s : State) : Prop :=
  s.du.spans.Pairwise (fun a b => a.finish ≤ b.start ∧ a.isOpen = false) ∧
    (∀ x ∈ s.du.spans, x.start ≤ x.finish ∧ x.finish ≤ s.du.sec) ∧ s.du.spans.length ≤ spanCapacity

/-- The day second stays in a day (R118). -/
abbrev DaySecondOk (s : State) : Prop := s.du.sec < daySeconds

/-- A pending inquiry exists only while the link is ONLINE, and the wait list holds entries only while an inquiry is pending
(R80). -/
abbrev InquiryOk (s : State) : Prop :=
  (s.iqu.pending.isSome = true → s.iqu.link = .online) ∧ (s.iqu.waiting ≠ [] → s.iqu.pending.isSome = true)

/-- The slot of a SERVICE lookup. -/
def Lookup.slot (l : Lookup) : Option SlotNo :=
  match l.requester with
  | .lane .. => none
  | .service k => some k

/-- The slots of the SERVICE lookups, in the lookup queue and in flight. -/
def State.lookupSlots (s : State) : List SlotNo :=
  s.psc.lookups.filterMap Lookup.slot ++ (match s.psc.op with
    | some { op := .lookupRead l, .. } => l.slot.toList
    | _ => [])

/-- The slots whose request some work in hand will answer or has answered: the replies of the outgoing queue, the SERVICE lookups,
a recovery, a format and the full saves (R190). -/
def State.ownedSlots (s : State) : List SlotNo :=
  s.hlc.queue.filterMap (fun f => match f with
    | .reply k _ _ _ => some k
    | _ => none) ++ s.lookupSlots ++
    (match s.psc.op with
    | some { op := .recoverHeader k, .. } | some { op := .format k _, .. } => [k]
    | _ => []) ++
    (s.sps.writing.toList.map (·.job) ++ s.sps.queued).filterMap (fun j => match j with
      | .full k _ => some k
      | .epoch => none)

/-- The request of a slot holds a posting credit while its lookup is under way: an update request, or the install of an inquiry's
record (R155, R89). -/
def Slot.holdsCredit (x : Slot) : Bool :=
  match x.request, x.progress with
  | .passPut .., _ | .passMerge .., _ | .passStatus .., _ | .passDrop .., _ => true
  | .inquiryAnswer .., .install _ => true
  | _, _ => false

/-- How many hold a posting credit: granted and passing lanes, the commit in flight, and the requests that wait for a lookup
(R65). -/
def State.postingHolders (s : State) : Nat :=
  allLanes.countP (fun n => (s.lane n).grant.any (·.postingCredit)) + s.ru.commit.toList.length +
    s.lookupSlots.countP (fun k => (s.hlc.slots.get k).any Slot.holdsCredit)

/-- How many hold a journal credit: granted and passing lanes and the commit in flight (R174). -/
def State.journalHolders (s : State) : Nat :=
  allLanes.countP (fun n => (s.lane n).grant.isSome) + s.ru.commit.toList.length

/-- Postings and posting credits never exceed 32, nor records and journal credits 1,024, and every holder has a credit that is
counted (R65, R174). The rest is what these need. A lane has a grant only in GRANTED and PASSING, with a posting credit where it
was admitted STORE_BACKED (R16). A lane on the waiting list is in WAITING under the admission of its entry, once (R101). No slot is
owned twice or while it is free (R190). The lookup of a REFUND_COMMIT is that of the commit in flight (R149). -/
def CreditsOk (s : State) : Prop :=
  s.psc.postings.length + s.psc.credits ≤ 32 ∧ s.jnl.records.length + s.jnl.credits ≤ 1024 ∧
    s.postingHolders ≤ s.psc.credits ∧ s.journalHolders ≤ s.jnl.credits ∧
    (∀ n g, (s.lane n).grant = some g → ((s.lane n).state = .granted ∨ (s.lane n).state = .passing) ∧
      ((s.lane n).admission = some .storeBacked → g.postingCredit = true)) ∧
    (mainOn s = true → (s.sm.waiting.map (·.lane)).Nodup ∧
      ∀ e ∈ s.sm.waiting, (s.lane e.lane).state = .waiting ∧ (s.lane e.lane).admission = some e.admission) ∧
    s.ownedSlots.Nodup ∧ (∀ k ∈ s.ownedSlots, (s.hlc.slots.get k).isSome = true) ∧
    (∀ k ∈ s.lookupSlots, ∀ tag pass amount p,
      s.hlc.slots.get k = some { request := .refundCommit tag pass amount, progress := p } →
      s.ru.commit.map (·.slot) = some k)

/-- The store device's contents are in their canonical form. -/
abbrev StoreOk (s : State) : Prop := s.store.wf = true

/-! ### A day that has been closed -/

/-- A day of `s` has been closed in `t`, where another has begun (R129, R130, R131, R133, R183). The closed day leaves its final
entry in the closure log, keeping a central loss that it had (for an entry that no CLOSURE_NOTE made, this and the writing over of
its local figures are the model's choice, log entry 73), with its CLOSURE posting in free space or marked unsaved; from a full
log without an entry of the day, the entry of the day furthest from it has left, the earlier of two at equal distance. The unsaved
entries of other days follow in day order while free space remains. A DAY_CLOSE record joins the journal, or is dropped and counted;
the day counters start again, nothing is lost of the new day, and DAY_CLOSED is raised. -/
def DayClosed (s t : State) : Prop :=
  let local_ := s.du.lost * 1000 / s.sps.schedule.seconds
  let old := s.du.log.find? (fun e => e.day == s.du.day)
  let used := s.psc.postings.length + s.psc.credits
  let entry : ClosureEntry :=
    { day := s.du.day, scheduled := s.sps.schedule.seconds, lost := s.du.lost, local_ := local_
      central := old.bind (·.central), final := true, unsaved := !decide (used < 32) }
  let c := s.jnl.day
  let figures : DayCloseFigures :=
    { day := s.du.day, scheduled := s.sps.schedule.seconds, lost := s.du.lost, local_ := local_, passages := c.passages
      provisional := c.provisional, denials := c.denials, followers := c.followers, intrusions := c.intrusions
      seatsOffered := c.seatsOffered, seatsGranted := c.seatsGranted }
  OnlyChanges [.psc, .sm, .du, .jnl, .hlc, .sps] s t ∧
    t.psc = { s.psc with postings := t.psc.postings, mode := t.psc.mode } ∧
    t.du.lost = 0 ∧ t.du.spans = [] ∧ t.du.hold = s.du.hold ∧ t.du.halt = s.du.halt ∧ t.du.backup = s.du.backup ∧
    t.jnl.day = DayCounters.zero ∧ t.jnl.lanes = s.jnl.lanes ∧ t.jnl.credits = s.jnl.credits ∧
    t.hlc.flags.getD EventClass.dayClosed.code false = true ∧
    (recordFree s = true → t.jnl.records = s.jnl.records ++
      [{ stamp := (readyStamp s).nextStamp, time := s.now, body := .dayClose figures }]) ∧
    (recordFree s = false → t.jnl.records = s.jnl.records ∧
      t.jnl.cumulative.dropped = addSat s.jnl.cumulative.dropped 1) ∧
    (LogOk s → LogOk t ∧ entry ∈ t.du.log ∧ ∃ others : List ClosureEntry,
      (old.isSome = true ∨ s.du.log.length < 96 → others = s.du.log.filter (fun e => e.day != s.du.day)) ∧
      (old = none → s.du.log.length = 96 → ∃ f ∈ s.du.log,
        (∀ e ∈ s.du.log, dayDistance e.day s.du.day < dayDistance f.day s.du.day ∨
          (dayDistance e.day s.du.day = dayDistance f.day s.du.day ∧ f.day ≤ e.day)) ∧
        others = s.du.log.filter (fun e => e.day != f.day)) ∧
      (let owed := (others.filter (·.unsaved)).take (32 - (used + 1))
       t.psc.postings = s.psc.postings ++ ((if used < 32 then [entry] else []) ++ owed).map (fun e =>
          .closure { e with unsaved := false }) ∧
        t.du.log.filter (fun e => e.day != s.du.day) =
          others.map (fun e => if e ∈ owed then { e with unsaved := false } else e)))

end Sys2Proof.Machine
end

