-- ==== Sys2Proof/Certificates/Slice0/Obligations.lean ====
section
/-! DEFINITION. The statements about the FL6, stated from the numbered rules of spec/. -/

open Sys2Proof Sys2Proof.Machine Sys2Proof.Config

/-! ### Lanes (chapter 1) -/

/-- R7: the lamp colour, the two lamp outputs and the release output by the lane state. -/
def Obligations.OutputsFollowTheLaneState : Prop :=
  ∀ l : Lane,
    (l.state = .off ∨ l.state = .idle →
      l.lamp = .off ∧ l.lampRed = false ∧ l.lampGreen = false ∧ l.released = false) ∧
    (l.state = .reading ∨ l.state = .checking ∨ l.state = .inquiring ∨ l.state = .waiting →
      l.lamp = .amber ∧ l.lampRed = true ∧ l.lampGreen = true ∧ l.released = false) ∧
    (l.state = .granted → l.lamp = .green ∧ l.lampRed = false ∧ l.lampGreen = true ∧ l.released = true) ∧
    (∀ o, l.state = .passing → l.obs = some o →
      l.lamp = .green ∧ l.lampRed = false ∧ l.lampGreen = true ∧ l.released = !o.rotationSeen) ∧
    (l.state = .denied ∨ l.state = .disabled ∨ l.state = .fault →
      l.lamp = .red ∧ l.lampRed = true ∧ l.lampGreen = false ∧ l.released = false)

/-- R8, R11: FIELD_ENTER and FIELD_LEAVE in each lane state; the frame restarts the silence timer (R5). At a FIELD_LEAVE
in CHECKING, INQUIRING and WAITING the presentation is withdrawn (R12). -/
def Obligations.FieldPresence : Prop :=
  (∀ (s : State) (n : LaneNo) (m : Nat), liveLane s n = true →
    let l := (s.lane n).heardAt s.ms
    let taken : Lane := { l with
      state := .reading, presentation := (l.presentation + 1) % 256, medium := some m, mediumPresent := true
      readFailures := 0, beamTimer := none }
    exec (.fieldEnter n m) s = .next (s.setLane n (
      match l.state with
      | .idle => if l.suppressed = some m then l else taken
      | .reading => if l.suppressed = some m ∨ l.medium = some m then l else taken
      | .denied | .granted | .passing =>
        if l.medium = some m then { l with mediumPresent := true } else { l with held := some m }
      | .checking | .inquiring | .waiting | .fault | .disabled | .off => l))) ∧
  (∀ (s : State) (n : LaneNo), liveLane s n = true →
    let l : Lane := { (s.lane n).heardAt s.ms with suppressed := none, mediumPresent := false }
    let idle := l.returned s.ms s.sps.bank.beamStuck
    let left := (s.setLane n idle).withAe (s.ae.without (.lane n l.presentation))
    (l.state = .reading → exec (.fieldLeave n) s = .next (s.setLane n idle)) ∧
    (l.state = .checking → exec (.fieldLeave n) s = .next (left.withPsc { s.psc with
      lookups := s.psc.lookups.filter (fun x => match x.requester with
        | .lane m _ => m != n
        | .service _ => true) })) ∧
    (l.state = .inquiring → exec (.fieldLeave n) s = .next (left.withIqu { s.iqu with
      waiting := s.iqu.waiting.filter (fun e => e.lane != n)
      pending := s.iqu.pending.map (fun p =>
        if p.lane = n ∧ p.presentation = l.presentation then { p with lanePresent := false } else p) })) ∧
    (l.state = .waiting → exec (.fieldLeave n) s = .next (left.withSm { s.sm with
      waiting := s.sm.waiting.filter (fun e => e.lane != n) })) ∧
    (l.state = .granted ∨ l.state = .passing ∨ l.state = .denied →
      exec (.fieldLeave n) s = .next (s.setLane n { l with held := none })) ∧
    (l.state = .idle ∨ l.state = .fault ∨ l.state = .disabled →
      exec (.fieldLeave n) s = .next (s.setLane n l)))

/-- R9 with R5: a READ_FAIL, a discarded frame and a frame broken off are failed reads in READING. The first two ask
again; the third denies the presentation UNREADABLE (R14). In every other state they change the silence timer only. A
discarded frame has a bad check, or it has a kind or a body length outside the table of R210. That a frame with a body length above 240
counts as discarded without a good check is the model's choice (log entry 55), and that a frame broken off leaves the silence timer as
it is, is read from R5 by inference (log entry 24). -/
def Obligations.FailedReadsInReading : Prop :=
  ∀ (i : Instr) (n : LaneNo) (good : Bool) (s : State), failedReadOf i = some (n, good) → liveLane s n = true →
    let l := if good then (s.lane n).heardAt s.ms else s.lane n
    let c := s.jnl.lanes.get n
    let j : JnlState :=
      { s.jnl with lanes := s.jnl.lanes.set n { c with readFailures := addSat c.readFailures 1 } }
    (l.state = .reading → l.readFailures < 2 →
      exec i s = .next ((s.setLane n { l with
        readFailures := l.readFailures + 1, readsDue := l.readsDue + 1 }).withJnl j)) ∧
    (l.state = .reading → 2 ≤ l.readFailures →
      exec i s = .next (((s.setLane n (l.shown (s.ms + s.sps.bank.denyDisplay * 100))).withJnl
        (j.denied n .unreadable)).withAe (s.ae.without (.lane n l.presentation)))) ∧
    (l.state ≠ .reading → exec i s = .next (s.setLane n l))

/-- R5, R10, R36, R39, R41, R57, R74: an IMAGE outside READING has no effect but the silence timer, which starts again. An IMAGE in
READING enters CHECKING; an image that a pre-store check denies ends in DENIED with that reason and no lookup, and one that passes
them joins the active pass set. In MOUNTING and READY its lookup joins the lookup queue, and a free port of a READY store takes the
next operation at once (R67). In FAULTED and FORMATTING the lookup completes STORE_ERROR at once, and the offline policy denies the
lane, which leaves the set, or admits it PROVISIONAL: it waits where no seat is free, and where one is free and no lane waits it is
granted. That the suppressed medium is gone from the entry to CHECKING on is the model's choice (log entry 28, from the presence
column of R1). -/
def Obligations.ImageIsCheckedInReading : Prop :=
  (∀ (s : State) (n : LaneNo) (bytes : List Byte), liveLane s n = true → (s.lane n).state ≠ .reading →
    exec (.image n bytes) s = .next (s.setLane n ((s.lane n).heardAt s.ms))) ∧
  (∀ (s : State) (n : LaneNo) (bytes : List Byte), liveLane s n = true → (s.lane n).state = .reading →
    let l : Lane := { (s.lane n).heardAt s.ms with
      state := .checking, image := some bytes, pass := some (imagePass bytes, imageProduct bytes), readFailures := 0
      suppressed := none }
    let denied (r : Reason) : State := ((s.setLane n (l.shown (s.ms + s.sps.bank.denyDisplay * 100))).withJnl
      (s.jnl.denied n r)).withAe (s.ae.without (.lane n l.presentation))
    let joined (l : Lane) : State := (s.setLane n l).withAe
      { members := s.ae.members ++ [{ pass := imagePass bytes, holder := .lane n l.presentation }] }
    (∀ r, imageDenies s bytes = some r → exec (.image n bytes) s = .next (denied r).served) ∧
    (imageDenies s bytes = none → LookupsQueue s → exec (.image n bytes) s = .next ((joined l).withPsc
      (s.psc.queued (.lane n l.presentation) (imagePass bytes) s.ms false)).served) ∧
    (imageDenies s bytes = none → LookupsEnd s →
      let provisional : Lane := { l with state := .waiting, admission := some .provisional }
      (∀ r, policyDenies s bytes .storeError = some r → exec (.image n bytes) s = .next (denied r)) ∧
      (policyDenies s bytes .storeError = none → windowFree s = false →
        exec (.image n bytes) s = .next ((joined provisional).withSm { s.sm with
          waiting := s.sm.waiting ++ [{ lane := n, presentation := l.presentation, admission := .provisional
                                        pass := imagePass bytes, timer := some (s.ms + s.sps.bank.waitLimit * 1000) }] })) ∧
      (∀ w, policyDenies s bytes .storeError = none → s.sm.waiting = [] → s.sm.window = some w → w.granted < w.seats →
        journalGrants s = true → s.iqu.provisional.length < 64 →
        exec (.image n bytes) s = .next ((((joined { provisional with
          state := .granted, stateTimer := some (s.ms + s.sps.bank.passThrough * 1000)
          grant := some { window := w.number, day := s.du.day, postingCredit := false } }).withSm
          { s.sm with window := some { w with granted := w.granted + 1 } }).withJnl
          { s.jnl with credits := s.jnl.credits + 1 }).withIqu
          { s.iqu with provisional := s.iqu.provisional ++ [{ pass := imagePass bytes, time := s.now }] }))))

/-- R3, R4, R17, R20, R22, R24: changes of the beams. A change that is seen after the part's first sample is accepted when the
input has held the new level for one sampling period; one that returns before then changes nothing, and so does one to the level
that stands. A level that the first sample shows, first seen by then and held past it, is taken without filtering and without an
event: it is no entry into a passage and no exit break, a beam so found broken starts the beam-stuck timer of a lane in IDLE from
that sample, and a level that has returned by then is not shown. A change accepted before the pass-through time or the passing
limit runs out: a break of the entry beam in GRANTED starts the passage; in the passage the first exit break counts, and a later
one when the beam had been clear for at least 150 ms. A break in IDLE starts the beam-stuck timer unless it runs; both beams clear
stop it, and take BEAM_STUCK away in FAULT and DISABLED. A change of an input, ROTn among them, that is accepted later finds the
grant expired or the passage abandoned, as if that expiry had been taken before it: an entry break is then no passage. That the
operands give the sample of a change and how long it holds, that the part's first sample falls at the millisecond of the restart,
that a level which returns at the very millisecond that completes its period is accepted (log entry 68), and that a change at the
very millisecond of the expiry is taken as the commands are ordered, is the model's choice (log entries 53 and 54). -/
def Obligations.BeamChanges : Prop :=
  (∀ (s : State) (seen held : Nat),
    let period := match s.sps.bank.filter with
      | .none => 0
      | .ms4 => 4
      | .ms16 => 16
      | .ms64 => 64
    let from_ := max seen s.sps.filterSince
    let start := s.sps.startedAt
    let discarded : Prop := s.acceptAt seen held = none ∧ ∀ n, liveLane s n = true →
      exec (.entryBeamBreak n seen held) s = .next s ∧ exec (.entryBeamClear n seen held) s = .next s ∧
      exec (.exitBeamBreak n seen held) s = .next s ∧ exec (.exitBeamClear n seen held) s = .next s
    (start < seen → from_ + period ≤ seen + held → s.acceptAt seen held = some (from_ + period)) ∧
    (start < seen → seen + held < from_ + period → discarded) ∧
    (seen + held ≤ start → discarded) ∧
    (seen ≤ start → start < seen + held → s.acceptAt seen held = none ∧ ∀ n, liveLane s n = true →
      let l := s.lane n
      let timer : Timer :=
        if l.state = .idle ∧ l.beamTimer = none then some (start + s.sps.bank.beamStuck * 1000) else l.beamTimer
      let stood (x : Lane) : State := s.setLane n { x with beamTimer := timer }
      let freed (x : Lane) (other : Bool) : State := s.setLane n (
        if other then x
        else match l.state with
          | .disabled => { x with beamStuck := false }
          | .fault => if l.readerSilent then { x with beamStuck := false }
            else { x with beamStuck := false }.returned s.ms s.sps.bank.beamStuck
          | _ => { x with beamTimer := none })
      exec (.entryBeamBreak n seen held) s = .next (stood { l with entryPin := true, entryBroken := true }) ∧
      exec (.exitBeamBreak n seen held) s = .next (stood { l with exitPin := true, exitBroken := true }) ∧
      exec (.entryBeamClear n seen held) s =
        .next (freed { l with entryPin := false, entryBroken := false } l.exitBroken) ∧
      exec (.exitBeamClear n seen held) s =
        .next (freed { l with exitPin := false, exitBroken := false } l.entryBroken))) ∧
  (∀ (s : State) (n : LaneNo) (seen held time : Nat), liveLane s n = true → s.acceptAt seen held = some time →
    (s.lane n).inTime time →
    let l := s.lane n
    let ms := max s.ms time
    let now := s.withMs ms
    let broken : Lane := { l with entryPin := true, entryBroken := true }
    let clear : Lane := { l with entryPin := false, entryBroken := false }
    let freed : Lane := { clear with beamStuck := false }
    let first : Option Nat := if l.exitBroken then some 0 else none
    let break_ : Instr := .entryBeamBreak n seen held
    let clear_ : Instr := .entryBeamClear n seen held
    (l.entryBroken = true → exec break_ s = .next s) ∧
    (l.entryBroken = false → exec clear_ s = .next s) ∧
    (l.entryBroken = false → l.state = .granted →
      exec break_ s = .next (now.setLane n { broken with
        state := .passing, stateTimer := some (ms + s.sps.bank.passingLimit * 1000)
        obs := some { rotationSeen := false, breaks := if l.exitBroken then 1 else 0, first := first, last := first
                      clearAt := none, entered := ms } })) ∧
    (l.entryBroken = false → l.state = .idle → l.beamTimer = none →
      exec break_ s = .next (now.setLane n { broken with
        beamTimer := some (ms + s.sps.bank.beamStuck * 1000) })) ∧
    (l.entryBroken = false → l.state ≠ .granted → (l.state ≠ .idle ∨ l.beamTimer ≠ none) →
      exec break_ s = .next (now.setLane n broken)) ∧
    (l.entryBroken = true → l.exitBroken = true → exec clear_ s = .next (now.setLane n clear)) ∧
    (l.entryBroken = true → l.exitBroken = false → l.state ≠ .fault → l.state ≠ .disabled →
      exec clear_ s = .next (now.setLane n { clear with beamTimer := none })) ∧
    (l.entryBroken = true → l.exitBroken = false → (l.state = .disabled ∨ (l.state = .fault ∧ l.readerSilent = true)) →
      exec clear_ s = .next (now.setLane n freed)) ∧
    (l.entryBroken = true → l.exitBroken = false → l.state = .fault → l.readerSilent = false →
      exec clear_ s = .next (now.setLane n (freed.returned ms s.sps.bank.beamStuck)))) ∧
  (∀ (s : State) (n : LaneNo) (seen held time : Nat), liveLane s n = true → s.acceptAt seen held = some time →
    (s.lane n).inTime time →
    let l := s.lane n
    let ms := max s.ms time
    let now := s.withMs ms
    let broken : Lane := { l with exitPin := true, exitBroken := true }
    let clear : Lane := { l with exitPin := false, exitBroken := false }
    let freed : Lane := { clear with beamStuck := false }
    let break_ : Instr := .exitBeamBreak n seen held
    let clear_ : Instr := .exitBeamClear n seen held
    (l.exitBroken = true → exec break_ s = .next s) ∧
    (l.exitBroken = false → exec clear_ s = .next s) ∧
    (∀ o : PassageObs, l.exitBroken = false → l.state = .passing → l.obs = some o → o.breaks = 0 →
      exec break_ s = .next (now.setLane n { broken with
        obs := some { o with breaks := 1, first := some (ms - o.entered), last := some (ms - o.entered) } })) ∧
    (∀ (o : PassageObs) (c : Nat), l.exitBroken = false → l.state = .passing → l.obs = some o → o.breaks ≠ 0 →
      o.clearAt = some c → c + 150 ≤ ms →
      exec break_ s = .next (now.setLane n { broken with
        obs := some { o with breaks := min 255 (o.breaks + 1), last := some (ms - o.entered) } })) ∧
    (∀ (o : PassageObs) (c : Nat), l.exitBroken = false → l.state = .passing → l.obs = some o → o.breaks ≠ 0 →
      o.clearAt = some c → ms < c + 150 →
      exec break_ s = .next (now.setLane n broken)) ∧
    (l.exitBroken = false → l.state = .idle → l.beamTimer = none →
      exec break_ s = .next (now.setLane n { broken with
        beamTimer := some (ms + s.sps.bank.beamStuck * 1000) })) ∧
    (l.exitBroken = false → l.state ≠ .passing → (l.state ≠ .idle ∨ l.beamTimer ≠ none) →
      exec break_ s = .next (now.setLane n broken)) ∧
    (∀ o : PassageObs, l.exitBroken = true → l.state = .passing → l.obs = some o → o.rotationSeen = false →
      exec clear_ s = .next (now.setLane n { clear with obs := some { o with clearAt := some ms } })) ∧
    (l.exitBroken = true → l.entryBroken = true → l.state ≠ .passing → exec clear_ s = .next (now.setLane n clear)) ∧
    (l.exitBroken = true → l.entryBroken = false → l.state ≠ .passing → l.state ≠ .fault → l.state ≠ .disabled →
      exec clear_ s = .next (now.setLane n { clear with beamTimer := none })) ∧
    (l.exitBroken = true → l.entryBroken = false → (l.state = .disabled ∨ (l.state = .fault ∧ l.readerSilent = true)) →
      exec clear_ s = .next (now.setLane n freed)) ∧
    (l.exitBroken = true → l.entryBroken = false → l.state = .fault → l.readerSilent = false →
      exec clear_ s = .next (now.setLane n (freed.returned ms s.sps.bank.beamStuck)))) ∧
  (∀ (s : State) (n : LaneNo) (seen held time t : Nat) (i : Instr), liveLane s n = true →
    let l := s.lane n
    (i = .entryBeamBreak n seen held ∧ s.acceptAt seen held = some time ∧ l.entryBroken = false) ∨
      (i = .entryBeamClear n seen held ∧ s.acceptAt seen held = some time ∧ l.entryBroken = true) ∨
      (i = .exitBeamBreak n seen held ∧ s.acceptAt seen held = some time ∧ l.exitBroken = false) ∨
      (i = .exitBeamClear n seen held ∧ s.acceptAt seen held = some time ∧ l.exitBroken = true) ∨
      (i = .rotationPulse n seen held ∧ (s.pulse l.rotation seen held).2 = some time) →
    l.stateTimer = some t → t < time →
    (l.state = .granted → ∃ u, exec (.grantExpiry n) s = .next u ∧
      ((u.lane n).state = .denied ∨ (u.lane n).state = .fault) ∧ exec i s = exec i u ∧
      (i = .entryBeamBreak n seen held → exec i s = .next ((u.withMs (max u.ms time)).setLane n
        { u.lane n with entryPin := true, entryBroken := true }))) ∧
    (l.state = .passing → ∃ u, exec (.passingLimitExpiry n) s = .next u ∧
      (u.lane n).state ≠ .granted ∧ (u.lane n).state ≠ .passing ∧ exec i s = exec i u))

/-- R19, R21, R22: the passage completes at the rotation pulse when the exit beam is clear, or at the exit-beam clear when
the rotation was seen, where it is accepted before the passing limit runs out. One journal record, for a STORE_BACKED admission one
USAGE posting with the record's stamp, the counts of the lane and of the day with the rider bin of the clock, the pass out of the
active pass set, the offsets kept, and the lane's return. A first rotation pulse while the exit beam is broken sets rotation seen and
drives RELn low, and the passage does not complete by it. That a change accepted at the very millisecond of the limit comes before it,
and when the fall of a pulse on ROTn counts as accepted, is the model's choice (log entries 54 and 53). -/
def Obligations.PassageCompletes : Prop :=
  (∀ (s : State) (n : LaneNo) (seen held time : Nat) (i : Instr) (g : Grant) (a : Admission) (o : PassageObs),
    liveLane s n = true → (s.lane n).state = .passing → (s.lane n).grant = some g →
    (s.lane n).admission = some a → (s.lane n).obs = some o → (s.lane n).inTime time →
    (i = .rotationPulse n seen held ∧ (s.pulse (s.lane n).rotation seen held).2 = some time ∧
        o.rotationSeen = false ∧ (s.lane n).exitBroken = false) ∨
      (i = .exitBeamClear n seen held ∧ s.acceptAt seen held = some time ∧ o.rotationSeen = true ∧
        (s.lane n).exitBroken = true) →
    let l := s.lane n
    let stamp := (readyStamp s).nextStamp
    let followers := o.breaks - 1
    let pass := (l.pass.map (·.1)).getD 0
    let product := (l.pass.map (·.2)).getD 0
    let record : JRecord :=
      { stamp := stamp
        time := s.now
        body := .passage (a == .provisional) n pass product g.day (followers != 0) false followers }
    let backed := if a = .storeBacked then 1 else 0
    let c := s.jnl.lanes.get n
    ∃ t, exec i s = .next t ∧
      t.jnl.records = s.jnl.records ++ [record] ∧
      t.psc.postings = s.psc.postings ++
        (if a = .storeBacked then [.usage pass g.day s.now s.sps.bank.bankId stamp] else []) ∧
      t.ae = s.ae.without (.lane n l.presentation) ∧
      (t.jnl.lanes.get n).passages = addSat c.passages backed ∧
      (t.jnl.lanes.get n).provisional = addSat c.provisional (1 - backed) ∧
      (t.jnl.lanes.get n).tailgates = addSat c.tailgates (if followers = 0 then 0 else 1) ∧
      (t.jnl.lanes.get n).followers = addSat c.followers followers ∧
      t.jnl.day = { s.jnl.day with
        passages := addSat s.jnl.day.passages backed, provisional := addSat s.jnl.day.provisional (1 - backed)
        followers := addSat s.jnl.day.followers followers }.withRiders (1 + followers) s.du.sec ∧
      t.jnl.credits = s.jnl.credits - 1 ∧ t.psc.credits = s.psc.credits - backed ∧
      (followers ≠ 0 → t.hlc.flags.getD EventClass.tailgate.code false = true) ∧
      (t.lane n).lastOffsets = (match o.first, o.last with
        | some x, some y => some (x, y)
        | _, _ => none) ∧
      (t.lane n).state = (if l.disablePending then .disabled else if l.beamStuck || l.readerSilent then .fault
        else if l.held.isSome then .reading else .idle) ∧
      (∀ m, m ≠ n → t.lane m = s.lane m) ∧ t.sm = s.sm ∧ t.du = s.du ∧ t.store = s.store ∧ t.pending = s.pending) ∧
  (∀ (s : State) (n : LaneNo) (seen held time : Nat) (o : PassageObs), liveLane s n = true →
    (s.lane n).state = .passing → (s.lane n).obs = some o → o.rotationSeen = false → (s.lane n).exitBroken = true →
    (s.pulse (s.lane n).rotation seen held).2 = some time → (s.lane n).inTime time →
    let l := s.lane n
    let fallen := seen + held
    let turned : Lane := { l with
      rotation := { high := true, fall := fallen, low := max fallen s.sps.filterSince + s.sps.bank.filter.period }
      obs := some { o with rotationSeen := true } }
    l.released = true ∧ turned.released = false ∧
      exec (.rotationPulse n seen held) s = .next ((s.withMs (max s.ms time)).setLane n turned))

/-- R3, R4, R23: an accepted rotation pulse outside a passage, or the second of one passage, is an intrusion: it is counted,
recorded in a free journal position or dropped, and raised, and it changes nothing of a lane but the level of ROTn. A pulse that
is not held for a sampling period, and one seen while the level is still accepted high, is no event; nor is one that the part's
first sample shows high, which gives the level alone (R4). The fall after a pulse is accepted one sampling period later. In OFF
the lane does not sample. A pulse accepted after a grant or a passage has run out is in the statement on the changes of the beams.
What the operands of the pulse stand for, and that a pulse held for exactly the sampling period is accepted, is the model's choice
(log entries 53 and 68). -/
def Obligations.IntrusionsAreCounted : Prop :=
  ∀ (s : State) (n : LaneNo) (seen held : Nat),
    let l := s.lane n
    let pulse : Instr := .rotationPulse n seen held
    let fallen := seen + held
    let low := max fallen s.sps.filterSince + s.sps.bank.filter.period
    let atFirst := decide (seen ≤ s.sps.startedAt) && decide (s.sps.startedAt < fallen)
    (l.rotation.high = false ∨ l.rotation.low ≤ seen → atFirst = false →
      (s.pulse l.rotation seen held).2 = s.acceptAt seen held) ∧
    ((l.rotation.high = true ∧ seen < l.rotation.low) ∨ seen ≤ s.sps.startedAt →
      (s.pulse l.rotation seen held).2 = none) ∧
    (∀ time, liveLane s n = true → (s.pulse l.rotation seen held).2 = some time → l.inTime time →
      l.state ≠ .passing ∨ (∃ o, l.obs = some o ∧ o.rotationSeen = true) →
      let c := s.jnl.lanes.get n
      ∃ t, exec pulse s = .next t ∧ OnlyChanges [.lanes, .jnl, .hlc, .sps, .ms] s t ∧ t.ms = max s.ms time ∧
        t.lanes = s.lanes.set n { l with rotation := { high := true, fall := fallen, low := low } } ∧
        t.jnl.lanes = s.jnl.lanes.set n { c with intrusions := addSat c.intrusions 1 } ∧
        t.jnl.day = { s.jnl.day with intrusions := addSat s.jnl.day.intrusions 1 }.withRiders 1 s.du.sec ∧
        t.jnl.credits = s.jnl.credits ∧
        t.hlc.flags.getD EventClass.intrusion.code false = true ∧
        (recordFree s = true → t.jnl.cumulative = s.jnl.cumulative ∧ t.jnl.records = s.jnl.records ++
          [{ stamp := (readyStamp s).nextStamp, time := s.now, body := .intrusion n }]) ∧
        (recordFree s = false → t.jnl.records = s.jnl.records ∧
          t.jnl.cumulative = { s.jnl.cumulative with dropped := addSat s.jnl.cumulative.dropped 1 } ∧
          t.hlc.flags.getD EventClass.journalFull.code false = true)) ∧
    (liveLane s n = true → (s.pulse l.rotation seen held).2 = none →
      exec pulse s = .next (s.setLane n { l with rotation :=
        { high := (l.rotation.high && decide (seen < l.rotation.low)) || atFirst, fall := fallen, low := low } })) ∧
    (l.state = .off → exec pulse s = .next (s.setLane n { l with rotation := { l.rotation with fall := fallen } }))

/-- R5, R6, R12, R15, R25, R26: FE_STATUS takes READER_SILENT away, FE_READ_SEND starts one READ that is due, and the silence
timer adds READER_SILENT: in IDLE and READING the lane enters FAULT, in DENIED it first keeps the medium as suppressed where it is
present, and in CHECKING, INQUIRING and WAITING the presentation is withdrawn first. -/
def Obligations.FrontEndSupervision : Prop :=
  ∀ (s : State) (n : LaneNo), liveLane s n = true →
    let l := s.lane n
    let awake : Lane := { l.heardAt s.ms with readerSilent := false }
    (l.state ≠ .fault ∨ l.beamStuck = true → exec (.feStatus n) s = .next (s.setLane n awake)) ∧
    (l.state = .fault → l.beamStuck = false →
      exec (.feStatus n) s = .next (s.setLane n (awake.returned s.ms s.sps.bank.beamStuck))) ∧
    exec (.feReadSend n) s = .next (s.setLane n { l with readsDue := l.readsDue - 1 }) ∧
    (∀ x, l.silenceTimer = some x →
      let silent : Lane := { l with readerSilent := true, silenceTimer := none }
      let now := s.withMs (max s.ms x)
      (l.state = .disabled ∨ l.state = .granted ∨ l.state = .passing ∨ l.state = .fault →
        exec (.silenceTimerExpiry n) s = .next (now.setLane n silent)) ∧
      (l.state = .idle ∨ l.state = .reading → ∃ t, exec (.silenceTimerExpiry n) s = .next t ∧
        OnlyChanges [.lanes, .hlc, .ms] s t ∧ t.lanes = s.lanes.set n silent.inFault ∧
        t.hlc.flags.getD EventClass.laneFault.code false = true) ∧
      (l.state = .denied → ∃ t, exec (.silenceTimerExpiry n) s = .next t ∧ OnlyChanges [.lanes, .hlc, .ms] s t ∧
        t.lanes = s.lanes.set n
          { silent.inFault with suppressed := if l.mediumPresent then l.medium else none } ∧
        t.hlc.flags.getD EventClass.laneFault.code false = true) ∧
      (l.state = .checking ∨ l.state = .inquiring ∨ l.state = .waiting →
        ∃ t, exec (.silenceTimerExpiry n) s = .next t ∧
        OnlyChanges [.lanes, .ae, .psc, .iqu, .sm, .hlc, .ms] s t ∧ t.lanes = s.lanes.set n silent.inFault ∧
        t.ms = max s.ms x ∧ t.ae = s.ae.without (.lane n l.presentation) ∧
        t.hlc.flags.getD EventClass.laneFault.code false = true ∧
        t.psc = (if l.state = .checking then { s.psc with lookups := s.psc.lookups.filter (fun y => match y.requester with
          | .lane m _ => m != n
          | .service _ => true) } else s.psc) ∧
        t.iqu = (if l.state = .inquiring then { s.iqu with
          waiting := s.iqu.waiting.filter (fun e => e.lane != n)
          pending := s.iqu.pending.map (fun p =>
            if p.lane = n ∧ p.presentation = l.presentation then { p with lanePresent := false } else p) } else s.iqu) ∧
        t.sm = (if l.state = .waiting then { s.sm with waiting := s.sm.waiting.filter (fun e => e.lane != n) }
          else s.sm)))

/-- R15, R17, R22, R24, R26, R102, R104: the ends of a lane's state timer and of its beam-stuck timer. The seat and the credits that a
grant held come back, each with a grant pass over the lanes that wait; that the seat comes back first, then the journal credit and
then the posting credit, is the model's choice (log entry 59). The lane itself does not wait for a seat. Where a fault cause holds when
the grant expires or the passage is abandoned, the lane enters FAULT in place of DENIED or IDLE, with LANE_FAULT; a disable that is
pending at the end of the passage comes before it. -/
def Obligations.LaneTimersEnd : Prop :=
  ∀ (s : State) (n : LaneNo) (x : Nat), liveLane s n = true → (∀ e ∈ s.sm.waiting, e.lane ≠ n) →
    let l := s.lane n
    let ms := max s.ms x
    let c := s.jnl.lanes.get n
    (l.state = .denied → l.stateTimer = some x →
      exec (.denyDisplayEnd n) s = .next ((s.withMs ms).setLane n
        ({ l with suppressed := if l.mediumPresent then l.medium else none }.returned ms s.sps.bank.beamStuck))) ∧
    let sound := l.beamStuck = false ∧ l.readerSilent = false
    let faults (u t : State) : Prop := OnlyChanges [.lanes, .ae, .hlc] u t ∧ t.lanes = u.lanes.set n l.inFault ∧
      t.ae = s.ae.without (.lane n l.presentation) ∧ t.hlc.flags.getD EventClass.laneFault.code false = true
    (∀ g, l.state = .granted → l.stateTimer = some x → l.grant = some g →
      let u := (((s.withMs ms).withJnl { s.jnl with
        lanes := s.jnl.lanes.set n { c with expiries := addSat c.expiries 1 } }).seatReturned g.window).creditsReturned g
      (sound → exec (.grantExpiry n) s = .next ((u.withAe (s.ae.without (.lane n l.presentation))).setLane n
        (l.shown (ms + s.sps.bank.denyDisplay * 100)))) ∧
      (¬ sound → ∃ t, exec (.grantExpiry n) s = .next t ∧ faults u t)) ∧
    (∀ g, l.state = .passing → l.stateTimer = some x → l.grant = some g →
      let u := ((s.withMs ms).withJnl { s.jnl with
        lanes := s.jnl.lanes.set n { c with abandoned := addSat c.abandoned 1 } }).creditsReturned g
      let left : State := u.withAe (s.ae.without (.lane n l.presentation))
      (l.disablePending = true → exec (.passingLimitExpiry n) s = .next (left.setLane n l.outOfService)) ∧
      (l.disablePending = false → sound → exec (.passingLimitExpiry n) s = .next
        (left.setLane n (l.returned ms s.sps.bank.beamStuck))) ∧
      (l.disablePending = false → ¬ sound → ∃ t, exec (.passingLimitExpiry n) s = .next t ∧ faults u t)) ∧
    (l.state = .idle → l.beamTimer = some x → ∃ t, exec (.beamStuckExpiry n) s = .next t ∧
      OnlyChanges [.lanes, .hlc, .ms] s t ∧ t.ms = ms ∧
      t.lanes = s.lanes.set n { l with beamStuck := true }.inFault ∧
      t.hlc.flags.getD EventClass.laneFault.code false = true)

/-- R27: LANE_MODE. A lane number outside 1..6 or a mode other than 0 and 1 is BAD_FIELD, an unfitted lane OUT_OF_RANGE; DISABLE and
ENABLE act by the lane's state, and the reply carries the state that results. A DISABLE in GRANTED returns the seat to the window
that granted it, where that is the current one, and releases the credits (R18); it is stated where no lane waits for a seat. That
the reply of an ENABLE with a fault cause joins the queue behind the LANE_FAULT notice is the model's choice (log entry 57). -/
def Obligations.LaneModeActsByState : Prop :=
  ∀ (s : State) (k : SlotNo) (tag lane mode : Nat), SlotFor s k →
    let i : Instr := .laneMode tag lane mode
    (laneOf lane = none ∨ 2 ≤ mode → exec i s = .next (s.withHlc (s.hlc.answered i k (.status .badField)))) ∧
    (∀ n, laneOf lane = some n → mode ≤ 1 → fittedLanes s.sps.straps.lanes < lane →
      exec i s = .next (s.withHlc (s.hlc.answered i k (.status .outOfRange)))) ∧
    (∀ n, laneOf lane = some n → lane ≤ fittedLanes s.sps.straps.lanes →
      let l := s.lane n
      (mode = 0 → (l.state = .idle ∨ l.state = .reading ∨ l.state = .denied ∨ l.state = .fault) →
        exec i s = .next ((s.setLane n l.outOfService).withHlc (s.hlc.answered i k (.lane .disabled)))) ∧
      (mode = 0 → (l.state = .checking ∨ l.state = .inquiring ∨ l.state = .waiting) → ∃ t, exec i s = .next t ∧
        OnlyChanges [.lanes, .ae, .psc, .iqu, .sm, .hlc] s t ∧ t.lanes = s.lanes.set n l.outOfService ∧
        t.ae = s.ae.without (.lane n l.presentation) ∧ t.hlc = s.hlc.answered i k (.lane .disabled) ∧
        t.psc.postings = s.psc.postings ∧ t.sm.window = s.sm.window ∧
        (l.state = .waiting → ∀ e ∈ t.sm.waiting, e.lane ≠ n)) ∧
      (∀ g, mode = 0 → l.state = .granted → l.grant = some g → s.sm.waiting = [] → ∃ t, exec i s = .next t ∧
        OnlyChanges [.lanes, .ae, .psc, .sm, .jnl, .hlc] s t ∧ t.lanes = s.lanes.set n l.outOfService ∧
        t.ae = s.ae.without (.lane n l.presentation) ∧ t.hlc = s.hlc.answered i k (.lane .disabled) ∧
        t.jnl = { s.jnl with
          lanes := s.jnl.lanes.set n { s.jnl.lanes.get n with expiries := addSat (s.jnl.lanes.get n).expiries 1 }
          credits := s.jnl.credits - 1 } ∧
        t.psc = { s.psc with credits := s.psc.credits - (if g.postingCredit then 1 else 0) } ∧
        t.sm = { s.sm with window := s.sm.window.map (fun w =>
          if w.number = g.window then { w with granted := w.granted - 1 } else w) }) ∧
      (mode ≤ 1 → l.state = .passing →
        exec i s = .next ((s.setLane n { l with disablePending := mode == 0 }).withHlc
          (s.hlc.answered i k (.lane .passing)))) ∧
      (mode = 0 → l.state = .disabled → exec i s = .next (s.withHlc (s.hlc.answered i k (.lane .disabled)))) ∧
      (mode = 1 → l.state = .disabled → l.beamStuck = false → l.readerSilent = false →
        exec i s = .next ((s.setLane n (l.returned s.ms s.sps.bank.beamStuck)).withHlc
          (s.hlc.answered i k (.lane (l.returned s.ms s.sps.bank.beamStuck).state)))) ∧
      (mode = 1 → l.state = .disabled → (l.beamStuck = true ∨ l.readerSilent = true) → ∃ t, exec i s = .next t ∧
        OnlyChanges [.lanes, .hlc] s t ∧ t.lanes = s.lanes.set n l.inFault ∧
        t.hlc.flags.getD EventClass.laneFault.code false = true ∧
        t.hlc.queue.getLast? = some (.reply k 10 tag (.lane .fault))) ∧
      (mode = 1 → l.state ≠ .disabled → l.state ≠ .passing →
        exec i s = .next (s.withHlc (s.hlc.answered i k (.lane l.state)))))

/-! ### Admission (chapter 2) -/

/-- R36 to R38, R43 to R48, R92, R93: the pre-store checks, the record checks and the checks of the offline policy in their order,
each with the reason of the first that fails. F is the first valid day, V the span and N the entitled days of the product. A record
whose first day is 0 is not yet valid on every day, and an image first day of 0 is before every day. That a record which keeps no day set
counts as one with no day used in the FLEX check is the model's choice (log entry 43). -/
def Obligations.ChecksInOrder : Prop :=
  (∀ (s : State) (image : List Byte),
    imageDenies s image = firstFailing
      [(s.du.day == 0, .clockUnset),
       (imageMalformed image, .badImage),
       (s.du.sched == .beforeOpen || s.du.sched == .closed, .closedHours),
       (s.du.hold.isSome, .hold),
       (s.du.halt.isSome, .halted),
       ((productOf s (imageProduct image)).kind == .unused, .unknownProduct),
       (s.lsu.deny.contains (imagePass image), .revoked),
       (s.ae.members.any (fun m => m.pass == imagePass image), .inUse)]) ∧
  (∀ (s : State) (r : PassRecord),
    let e := productOf s r.product
    let today := s.du.day
    let first := r.firstDay
    let set := r.daySet.getD 0
    let elapsed (p : Passage) : Int :=
      ((today : Int) - (p.time.day : Int)) * 86400 + ((s.du.sec : Int) - (p.time.sec : Int))
    recordDenies s r = firstFailing
      [(r.status == .refunded, .refunded),
       (r.status == .suspended, .suspended),
       (e.kind == .unused, .unknownProduct),
       (first == 0 || today < first, .notYetValid),
       (first + e.span ≤ today, .expired),
       (e.kind == .flex && !set.getLsbD (today - first) && e.entitled ≤ (DaySet.offsets set).length, .exhausted),
       (!e.zoneMask.getLsbD s.sps.bank.zone, .wrongZone),
       (r.last.any (fun p => p.bank == s.sps.bank.bankId && decide (max 0 (elapsed p) < (s.sps.bank.lockout : Int))),
         .passback),
       (e.rideLimit != 0 && r.ridesDay == today && e.rideLimit ≤ r.ridesCount, .ridesUsed)]) ∧
  (∀ (s : State) (image : List Byte) (origin : Origin),
    let e := productOf s (imageProduct image)
    let today := s.du.day
    let first := imageFirstDay image
    let elapsed (p : Provisional) : Int :=
      ((today : Int) - (p.time.day : Int)) * 86400 + ((s.du.sec : Int) - (p.time.sec : Int))
    policyDenies s image origin = firstFailing
      [(e.kind == .unused, .unknownProduct),
       (e.policy == .deny && origin == .miss, .unknownPass),
       (e.policy == .deny && origin == .storeError, .storeFault),
       (today < first, .notYetValid),
       (first + e.span ≤ today, .expired),
       (!e.zoneMask.getLsbD s.sps.bank.zone, .wrongZone),
       (s.iqu.provisional.any (fun p => p.pass == imagePass image &&
         decide (max 0 (elapsed p) < (s.sps.bank.lockout : Int))), .passback)])

/-- R42, R49, R82, R83, R84, R92, R101: a lane's lookup completes. A lane that is not in CHECKING under the lookup's presentation
number discards it. A hit that a record check or the outcome gate denies ends in DENIED with that reason; one that passes is
granted at once where a seat and the credits are free and no lane waits, and with no seat free it ends in WAITING as STORE_BACKED.
A miss with the link ONLINE sends an inquiry, or, with one pending, joins the wait list where it has room; a miss with the link
OFFLINE or the wait list full goes to the offline policy, which denies it or admits it PROVISIONAL. -/
def Obligations.LaneLookupCompletes : Prop :=
  ∀ (s : State) (n : LaneNo) (presentation : Nat) (l : Lookup) (x : IssuedOp), mainOn s = true →
    s.psc.op = some x → x.op = .lookupRead l → l.requester = .lane n presentation →
    let c := s.lane n
    let image := c.image.getD []
    let found := recordOf (forwarded s l.pass) l.pass
    ∃ t, exec .lookupComplete s = .next t ∧ t.jnl.cumulative.lookups = addSat s.jnl.cumulative.lookups 1 ∧
      t.psc.postings = s.psc.postings ∧ t.store = s.store ∧ t.jnl.records = s.jnl.records ∧ t.pending = s.pending ∧
      (c.state ≠ .checking ∨ c.presentation ≠ presentation → OnlyChanges [.psc, .ru, .jnl] s t ∧
        t.jnl.lanes = s.jnl.lanes ∧ t.jnl.day = s.jnl.day) ∧
      (c.state = .checking → c.presentation = presentation →
        let denied (reason : Reason) : Prop := OnlyChanges [.lanes, .ae, .psc, .ru, .jnl] s t ∧
          t.lanes = s.lanes.set n (c.shown (s.ms + s.sps.bank.denyDisplay * 100)) ∧
          t.ae = s.ae.without (.lane n presentation) ∧ t.jnl.lanes = (s.jnl.denied n reason).lanes ∧
          t.jnl.day = (s.jnl.denied n reason).day
        let waits (a : Admission) : Prop := OnlyChanges [.lanes, .psc, .sm, .ru, .jnl] s t ∧
          t.lanes = s.lanes.set n { c with state := .waiting, admission := some a } ∧
          t.sm.waiting.map (fun e => (e.lane, e.admission, e.timer)) =
            s.sm.waiting.map (fun e => (e.lane, e.admission, e.timer)) ++
              [(n, a, some (s.ms + s.sps.bank.waitLimit * 1000))]
        let policy := s.iqu.link = .offline ∨ (s.iqu.pending.isSome = true ∧ 5 ≤ s.iqu.waiting.length)
        (∀ r reason, found = some r → recordDenies s r = some reason → denied reason) ∧
        (∀ r reason, found = some r → recordDenies s r = none → scheduleDenies s = some reason → denied reason) ∧
        (∀ r, found = some r → recordDenies s r = none → scheduleDenies s = none → windowFree s = false →
          waits .storeBacked) ∧
        (∀ r w, found = some r → recordDenies s r = none → scheduleDenies s = none → s.sm.waiting = [] →
          s.sm.window = some w → w.granted < w.seats → journalGrants s = true → postingGrants s = true →
          OnlyChanges [.lanes, .psc, .sm, .ru, .jnl] s t ∧
          t.lanes = s.lanes.set n { c with
            state := .granted, admission := some .storeBacked
            stateTimer := some (s.ms + s.sps.bank.passThrough * 1000)
            grant := some { window := w.number, day := s.du.day, postingCredit := true } } ∧
          t.sm = { s.sm with window := some { w with granted := w.granted + 1 } } ∧
          t.jnl.credits = s.jnl.credits + 1 ∧ t.psc.credits = s.psc.credits + 1) ∧
        (found = none → s.iqu.link = .online → s.iqu.pending = none →
          OnlyChanges [.lanes, .psc, .iqu, .ru, .jnl, .hlc] s t ∧
          t.lanes = s.lanes.set n { c with state := .inquiring } ∧ t.iqu.number = (s.iqu.number + 1) % 256 ∧
          t.iqu.pending.map (fun p => (p.number, p.lane, p.presentation, p.lanePresent, p.timeout)) =
            some ((s.iqu.number + 1) % 256, n, presentation, true, some (s.ms + s.sps.bank.inquiryTimeout)) ∧
          t.hlc.queue.getLast? = some (.inquiry ((s.iqu.number + 1) % 256) (laneNumber n) s.sps.bank.bankId image)) ∧
        (found = none → s.iqu.link = .online → s.iqu.pending.isSome = true → s.iqu.waiting.length < 5 →
          OnlyChanges [.lanes, .psc, .iqu, .ru, .jnl] s t ∧
          t.lanes = s.lanes.set n { c with state := .inquiring } ∧
          t.iqu = { s.iqu with waiting := s.iqu.waiting ++
            [{ lane := n, presentation := presentation, image := image, origin := .miss
               timer := some (s.ms + s.sps.bank.inquiryTimeout) }] }) ∧
        (∀ reason, found = none → policy → policyDenies s image .miss = some reason → denied reason) ∧
        (found = none → policy → policyDenies s image .miss = none → scheduleDenies s = none → windowFree s = false →
          waits .provisional))

/-! ### The pass store (chapter 3) -/

/-- R54, R55, R56, R59, 12.4, 12.5: the bucket of a pass ID; a posting write changes one slot of one bucket, where the record
reads back as it was written, and nothing else of the store device; the cycle of a CLOSURE posting writes its entry at the
position of its day and takes it from the queue. That the device's contents keep their canonical form (StoreOk) is a property
of the model's own form of them (log entry 7). -/
def Obligations.WritesOfTheStoreDevice : Prop :=
  (∀ pass : Nat, (bucketOf pass).val = (pass % 8192) ^^^ ((pass / 8192) % 8192)) ∧
  (∀ (s : State) (b : Fin 8192) (k : Fin 4) (r : PassRecord) (n : Nat), StoreOk s → r.fits →
    let t := deviceWrite (.postingWrite b k r) n s
    OnlyChanges [.store] s t ∧ StoreOk t ∧ readBucket t.store b = (readBucket s.store b).set k.val r ∧
      (∀ b' : Fin 8192, b' ≠ b → readBucket t.store b' = readBucket s.store b') ∧
      mountedHeader t = mountedHeader s ∧ closureArea t = closureArea s) ∧
  (∀ (s : State) (x : IssuedOp) (e : ClosureEntry) (p : Posting) (rest : List Posting), mainOn s = true →
    s.psc.op = some x → x.op = .closureWrite e → s.psc.postings = p :: rest →
    ∃ t, exec .postingCycleEnd s = .next t ∧ t.psc.postings = rest ∧ t.psc.uncertain = false ∧
      t.store = s.store.writeBytes (1572928 + 16 * (e.day % 96)) e.bytes ∧ t.jnl.records = s.jnl.records ∧
      t.du = s.du ∧ t.ae = s.ae)

/-- R59, R66 to R68, R79: the work of the store port. The next operation is the first that applies in the table of R67, by the
mode; without the main domain none is selected. An enqueue that brings the posting queue to 24 entries makes the mode
POSTING_FIRST and counts, a removal that brings it to 8 makes it LOOKUP_FIRST, and every other length leaves it. A cycle of the
head posting, whether it writes or not, leaves the forwarded bucket of every pass as it was, takes the posting from the queue and
counts one completed cycle. That a cycle without a write counts as completed is the model's choice (log entry 27). -/
def Obligations.ForwardingAgreesWithTheStore : Prop :=
  (∀ s : State, selectNext s = if mainOn s then s.served else s) ∧
  (∀ (s : State) (p : Posting),
    let longer : PscState := { s.psc with postings := s.psc.postings ++ [p] }
    (s.psc.mode = .lookupFirst → s.psc.postings.length + 1 = 24 →
      enqueue p s = (s.withPsc { longer with mode := .postingFirst }).withJnl { s.jnl with cumulative :=
        { s.jnl.cumulative with postingFirst := addSat s.jnl.cumulative.postingFirst 1 } }) ∧
    (s.psc.mode = .postingFirst ∨ s.psc.postings.length + 1 ≠ 24 → enqueue p s = s.withPsc longer)) ∧
  (∀ (s : State) (p : Posting) (rest : List Posting), s.psc.postings = p :: rest →
    removeHead s = (s.withPsc { s.psc with
      postings := rest, uncertain := false
      mode := if s.psc.mode = .postingFirst ∧ rest.length = 8 then .lookupFirst else s.psc.mode }).withJnl
        { s.jnl with cumulative := { s.jnl.cumulative with cycles := addSat s.jnl.cumulative.cycles 1 } }) ∧
  ∀ (s : State) (x : IssuedOp) (p : Posting) (rest : List Posting) (pass : Nat), mainOn s = true → StoreOk s →
    s.psc.op = some x → x.op = .postingRead → s.psc.postings = p :: rest → p.pass = some pass →
    (∀ k r, applyPosting (readBucket s.store (bucketOf pass)) s.psc.uncertain p = .write k r → k < 4 ∧ r.fits) →
    ∃ t, exec .postingReadComplete s = .next t ∧
      ((∀ k r, applyPosting (readBucket s.store (bucketOf pass)) s.psc.uncertain p ≠ .write k r) →
        t.psc.postings = rest ∧ t.psc.uncertain = false ∧ t.store = s.store ∧
        t.jnl.cumulative.cycles = addSat s.jnl.cumulative.cycles 1 ∧ ∀ q, forwarded t q = forwarded s q) ∧
      (∀ k r, applyPosting (readBucket s.store (bucketOf pass)) s.psc.uncertain p = .write k r →
        t.psc.op.map (·.op) = some (.postingWrite (bucketOf pass) (Fin.ofNat 4 k) r) ∧
        ∃ u, exec .postingCycleEnd t = .next u ∧ u.psc.postings = rest ∧ u.psc.uncertain = false ∧
          u.jnl.cumulative.cycles = addSat s.jnl.cumulative.cycles 1 ∧ ∀ q, forwarded u q = forwarded s q)

/-- R53, R60, R61, R74 to R77: a failure of the operation in flight. The first counts a retry and issues the operation again; a
posting cycle begins again with its bucket read, and is uncertain where its write was issued. The second makes the store FAULTED
and raises STORE_FAULT. A mount so ends; that the second failure of its closure read leaves the format number and the entries of the
closure log as they were, where R77 has the log empty, is the model's choice (log entries 44 and 47). A recovery and a format end with
their reply; a lookup completes STORE_ERROR, which a lane takes to the offline policy and a PASS_READ answers with STORE_FAULT, and so
does a lookup that stands in the queue; the posting of a cycle leaves the queue as lost, with its POSTING_LOST record where a journal
position is free. A timeout fails the operation 50 ms after its issue. The store device is as it was, or as the one write in flight
leaves it; a read changes nothing of it. That STORE_FAULT joins the queue before a reply and before the notices of the operation's
end, and that what the operation itself brings about comes before the queued lookups, is the model's choice (log entries 46, 57 and
61), and so is what a failed write of the headers leaves (log entry 29). -/
def Obligations.StoreOperationsFailTwice : Prop :=
  ∀ (s : State) (x : IssuedOp) (i : Instr) (ms : Nat), mainOn s = true → s.psc.op = some x →
    (i = .storeOpFailed ∧ ms = s.ms) ∨ (i = .storeOpTimeout ∧ ms = max s.ms (x.issued + 50)) →
    let device (t : State) : Prop :=
      t.store = s.store ∨ (x.op.writes = true ∧ t.store = (deviceWrite x.op 0 s).store)
    (s.psc.failures = 0 → ∃ t, exec i s = .next t ∧ t.psc = { s.psc with
        failures := 1, op := some { op := retryOf x.op, issued := ms }
        uncertain := s.psc.uncertain || writeIssued x.op } ∧
      t.jnl = { s.jnl with cumulative :=
        { s.jnl.cumulative with retries := addSat s.jnl.cumulative.retries 1 } } ∧ device t ∧
      OnlyChanges [.psc, .jnl, .store, .ms, .drawn] s t) ∧
    (s.psc.failures ≠ 0 →
      let ended : PscState := { s.psc with state := .faulted, op := none, failures := 0, lookups := [] }
      let raised (t : State) : Prop := t.hlc.flags.getD EventClass.storeFault.code false = true
      let mount := (∃ c, x.op = .mountHeader c) ∨ (∃ f, x.op = .mountClosure f)
      (s.psc.lookups = [] → mount → ∃ t, exec i s = .next t ∧ t.psc = ended ∧ raised t ∧ OnlyChanges [.psc, .hlc, .ms] s t) ∧
      (∀ q k tag pass p, s.psc.lookups = [q] → mount → q.requester = .service k →
        s.hlc.slots.get k = some { request := .passRead tag pass, progress := p } →
        ∃ t, exec i s = .next t ∧ t.psc = ended ∧ raised t ∧
          t.hlc.queue.getLast? = some (.reply k 27 tag (.status .storeFault)) ∧ OnlyChanges [.psc, .hlc, .ms] s t) ∧
      (∀ k r p, s.psc.lookups = [] → x.op = .recoverHeader k →
        s.hlc.slots.get k = some { request := r, progress := p } →
        ∃ t, exec i s = .next t ∧ t.psc = ended ∧ raised t ∧
          t.hlc.slots.get k = some { request := r, progress := .replied } ∧
          t.hlc.queue.getLast? = some (.reply k (requestKindTag r).1 (requestKindTag r).2
            (.recover .storeFault .faulted s.psc.formatNo)) ∧ OnlyChanges [.psc, .hlc, .ms] s t) ∧
      (∀ k st r p, s.psc.lookups = [] → x.op = .format k st →
        s.hlc.slots.get k = some { request := r, progress := p } →
        ∃ t, exec i s = .next t ∧ t.psc = ended ∧ raised t ∧ device t ∧
          (st = .invalidHeader → t.store = s.store.clear 0 14) ∧ (st = .validHeader → t.store = s.store) ∧
          t.hlc.slots.get k = some { request := r, progress := .replied } ∧
          t.hlc.queue.getLast? = some (.reply k (requestKindTag r).1 (requestKindTag r).2 (.status .storeFault)) ∧
          OnlyChanges [.psc, .hlc, .store, .ms, .drawn] s t) ∧
      (∀ l k tag pass p, s.psc.lookups = [] → x.op = .lookupRead l → l.requester = .service k →
        s.hlc.slots.get k = some { request := .passRead tag pass, progress := p } →
        ∃ t, exec i s = .next t ∧ t.psc = ended ∧ raised t ∧
          t.hlc.queue.getLast? = some (.reply k 27 tag (.status .storeFault)) ∧ OnlyChanges [.psc, .hlc, .ms] s t) ∧
      (∀ l n reason, s.psc.lookups = [] → x.op = .lookupRead l →
        l.requester = .lane n (s.lane n).presentation → (s.lane n).state = .checking →
        policyDenies s ((s.lane n).image.getD []) .storeError = some reason →
        ∃ t, exec i s = .next t ∧ t.psc = ended ∧ raised t ∧
          t.lanes = s.lanes.set n ((s.lane n).shown (ms + s.sps.bank.denyDisplay * 100)) ∧
          t.jnl = s.jnl.denied n reason ∧ t.ae = s.ae.without (.lane n (s.lane n).presentation) ∧
          OnlyChanges [.lanes, .ae, .psc, .jnl, .hlc, .ms] s t) ∧
      (∀ p rest, s.psc.lookups = [] →
        x.op = .postingRead ∨ (∃ b k r, x.op = .postingWrite b k r) ∨ (∃ e, x.op = .closureWrite e) →
        s.psc.postings = p :: rest → s.sm.waiting = [] →
        ∃ t, exec i s = .next t ∧ raised t ∧ t.psc = { ended with
            postings := rest, uncertain := false
            mode := if s.psc.mode = .postingFirst ∧ rest.length = 8 then .lookupFirst else s.psc.mode } ∧
          t.hlc.flags.getD EventClass.postingLost.code false = true ∧ device t ∧
          t.jnl.cumulative.lostPostings = addSat s.jnl.cumulative.lostPostings 1 ∧
          (recordFree s = true → t.jnl.records = s.jnl.records ++
            [{ stamp := (readyStamp s).nextStamp, time := s.now, body := .postingLost p }]) ∧
          (recordFree s = false → t.jnl.records = s.jnl.records ∧
            t.jnl.cumulative.dropped = addSat s.jnl.cumulative.dropped 1) ∧
          OnlyChanges [.psc, .jnl, .hlc, .sps, .store, .ms, .drawn] s t))

/-- R63: a lane's queued lookup becomes URGENT and keeps its place in the queue; the promotion is counted. -/
def Obligations.LookupsArePromoted : Prop :=
  ∀ (s : State) (n : LaneNo) (presentation : Nat) (l : Lookup) (before after : List Lookup), mainOn s = true →
    s.psc.lookups = before ++ l :: after → l.requester = .lane n presentation → l.urgent = false →
    (∀ y ∈ before ++ after, ∀ m q, y.requester = .lane m q → m ≠ n) →
    exec (.lookupPromotion n) s = .next (((s.withMs (max s.ms (l.queuedAt + 200))).withPsc
      { s.psc with lookups := before ++ { l with urgent := true } :: after }).withJnl
      { s.jnl with cumulative :=
          { s.jnl.cumulative with promotions := addSat s.jnl.cumulative.promotions 1 } })

/-- R75, R77, R131, R137: the header reads of a mount and of a recovery, and the closure read of a cold start. The closure log then
holds, in day order and without an unsaved mark, the entries of the closure area whose day is not 0, whose lost seconds do not exceed
the scheduled seconds and whose losses lie in 0..1,000. Where the log already holds entries, they stay, and one whose day the area
holds too takes from there what it lacks (the model's choice, log entry 47); of two positions with one day nothing is said (log
entry 30). That the reply of a failed recovery joins the queue behind the STORE_FAULT notice is the model's choice (log entry
57). -/
def Obligations.StoreMounts : Prop :=
  ∀ (s : State) (x : IssuedOp), mainOn s = true → s.psc.op = some x →
    (∀ f, x.op = .mountHeader false → mountedHeader s = some f → ∃ t, exec .mountHeaderRead s = .next t ∧
      t.psc.state = .ready ∧ t.psc.formatNo = f ∧ t.psc.postings = s.psc.postings ∧
      OnlyChanges [.psc, .ru] s t) ∧
    (∀ f, x.op = .mountHeader true → mountedHeader s = some f → ∃ t, exec .mountHeaderRead s = .next t ∧
      t.psc.state = s.psc.state ∧ t.psc.op = some { op := .mountClosure f, issued := s.ms } ∧
      OnlyChanges [.psc] s t) ∧
    (∀ c, x.op = .mountHeader c → mountedHeader s = none → s.psc.lookups = [] →
      ∃ t, exec .mountHeaderRead s = .next t ∧ t.psc.state = .faulted ∧ t.psc.op = none ∧
        t.hlc.flags.getD EventClass.storeFault.code false = true ∧ OnlyChanges [.psc, .hlc] s t) ∧
    (∀ f, x.op = .mountClosure f → ∃ t, exec .mountClosureRead s = .next t ∧ t.psc.state = .ready ∧
      t.psc.formatNo = f ∧ t.du = (rebuildLog s).du ∧ OnlyChanges [.psc, .ru, .du] s t ∧ t.du = { s.du with log := t.du.log } ∧
      (LogOk s →
        let area : List ClosureEntry :=
          (List.range 96).map (fun p => closureEntryOf (s.store.readBytes (1572928 + 16 * p) 16))
        let good (e : ClosureEntry) : Bool := e.day != 0 && decide (e.lost ≤ e.scheduled) && decide (e.local_ ≤ 1000) &&
          decide (e.central.getD 0 ≤ 1000)
        let taken := area.filter good
        let fill (e c : ClosureEntry) : ClosureEntry := { e with
          scheduled := if e.final then e.scheduled else c.scheduled, lost := if e.final then e.lost else c.lost
          local_ := if e.final then e.local_ else c.local_, final := e.final || c.final
          central := if e.central.isSome then e.central else c.central }
        LogOk t ∧
        ((taken.map (·.day)).Nodup → s.du.log.length + taken.length ≤ 96 → ∀ x : ClosureEntry, x ∈ t.du.log ↔
          (∃ c ∈ taken, (∀ e ∈ s.du.log, e.day ≠ c.day) ∧ x = { c with unsaved := false }) ∨
          (∃ c ∈ taken, ∃ e ∈ s.du.log, e.day = c.day ∧ x = fill e c) ∨
          (x ∈ s.du.log ∧ ∀ c ∈ taken, c.day ≠ x.day)))) ∧
    (∀ k i p, x.op = .recoverHeader k → s.hlc.slots.get k = some { request := i, progress := p } →
      mountedHeader s = none → s.psc.lookups = [] → ∃ t, exec .recoverHeaderRead s = .next t ∧
        OnlyChanges [.psc, .hlc] s t ∧ t.psc = { s.psc with state := .faulted, op := none, failures := 0 } ∧
        t.hlc.flags.getD EventClass.storeFault.code false = true ∧ t.hlc.queue.getLast? = some (.reply k
          (requestKindTag i).1 (requestKindTag i).2 (.recover .storeFault .faulted s.psc.formatNo))) ∧
    (∀ k i p f, x.op = .recoverHeader k → s.hlc.slots.get k = some { request := i, progress := p } →
      mountedHeader s = some f → ∃ t, exec .recoverHeaderRead s = .next t ∧ t.psc.state = .ready ∧
        t.psc.formatNo = f ∧ t.psc.postings = s.psc.postings ∧ OnlyChanges [.psc, .ru, .hlc] s t ∧
        t.hlc.queue = s.hlc.queue ++ [.reply k (requestKindTag i).1 (requestKindTag i).2 (.recover .ok .ready f)])

/-- R75, R76: STORE_RECOVER and STORE_FORMAT by the store state, and the writes of a format. A format is BUSY in READY and FAULTED
while a posting is queued or a lookup is queued or in flight. Each completed write stands in the store device, and after the valid
header the store is READY with the new format number, which the reply carries. Which bytes a format writes (14 zero bytes for the
invalid header, zeros over the buckets and the closure area), and the state and format number in a BUSY reply of STORE_RECOVER, are
the model's choice (log entries 29 and 32). -/
def Obligations.StoreServiceAndFormat : Prop :=
  (∀ (s : State) (k : SlotNo) (tag : Nat), SlotFor s k →
    let rec_ : Instr := .storeRecover tag
    let fmt : Instr := .storeFormat tag
    let issue (st : StoreState) (op : StoreOp) (failures : Nat) : PscState :=
      { s.psc with state := st, failures := failures, op := some { op := op, issued := s.ms } }
    (s.psc.state = .ready →
      exec rec_ s = .next (s.withHlc (s.hlc.answered rec_ k (.recover .ok .ready s.psc.formatNo)))) ∧
    (s.psc.state = .mounting ∨ s.psc.state = .formatting →
      exec rec_ s = .next (s.withHlc (s.hlc.answered rec_ k (.recover .busy s.psc.state s.psc.formatNo))) ∧
      exec fmt s = .next (s.withHlc (s.hlc.answered fmt k (.status .busy)))) ∧
    (s.psc.state = .faulted →
      exec rec_ s = .next ((s.withHlc (s.hlc.holding rec_ k .recovering)).withPsc
        (issue .mounting (.recoverHeader k) s.psc.failures))) ∧
    (s.psc.state = .ready ∨ s.psc.state = .faulted →
      (s.psc.postings ≠ [] ∨ s.psc.lookups ≠ [] ∨ (∃ x l, s.psc.op = some x ∧ x.op = .lookupRead l) →
        exec fmt s = .next (s.withHlc (s.hlc.answered fmt k (.status .busy)))) ∧
      (s.psc.postings = [] → s.psc.lookups = [] → s.psc.op = none →
        exec fmt s = .next ((s.withHlc (s.hlc.holding fmt k .formatting)).withPsc
          (issue .formatting (.format k .invalidHeader) 0))))) ∧
  (∀ (s : State) (x : IssuedOp) (k : SlotNo) (st : FormatStep) (i : Instr) (p : Progress), mainOn s = true →
    s.psc.op = some x → x.op = .format k st → s.hlc.slots.get k = some { request := i, progress := p } →
    let number := if s.psc.formatNo = 65535 then 1 else s.psc.formatNo + 1
    (st = .invalidHeader → ∃ t, exec .formatWriteComplete s = .next t ∧
      t.store = s.store.clear 0 14 ∧ t.psc.op = some { op := .format k (.bucket 0), issued := s.ms } ∧
      OnlyChanges [.psc, .store] s t) ∧
    (∀ b : Fin 8192, st = .bucket b → ∃ t, exec .formatWriteComplete s = .next t ∧
      t.store = s.store.clear (64 + 192 * b.val) 192 ∧ OnlyChanges [.psc, .store] s t ∧
      (∀ h : b.val + 1 < 8192, t.psc.op = some { op := .format k (.bucket ⟨b.val + 1, h⟩), issued := s.ms }) ∧
      (b.val = 8191 → t.psc.op = some { op := .format k .closureArea, issued := s.ms })) ∧
    (st = .closureArea → ∃ t, exec .formatWriteComplete s = .next t ∧
      t.store = s.store.clear 1572928 1536 ∧ t.psc.op = some { op := .format k .validHeader, issued := s.ms } ∧
      OnlyChanges [.psc, .store] s t) ∧
    (st = .validHeader → ∃ t, exec .formatWriteComplete s = .next t ∧
      t.store = s.store.writeBytes 0 (headerBytes number) ∧ t.psc.state = .ready ∧ t.psc.formatNo = number ∧
      t.hlc.queue = s.hlc.queue ++ [.reply k (requestKindTag i).1 (requestKindTag i).2 (.formatted number)] ∧
      OnlyChanges [.psc, .ru, .hlc, .store] s t))

/-! ### Inquiries (chapter 4) -/

/-- R81, R91: LINK_STATE. A value that names nothing is BAD_FIELD; ONLINE and an unchanged state are answered with the state
that results. An OFFLINE ends the pending inquiry, which becomes the last ended one, and empties the wait list; the lane of each
goes to the offline policy, and a policy denial ends in DENIED. -/
def Obligations.LinkStateIsSet : Prop :=
  ∀ (s : State) (k : SlotNo) (tag link : Nat), SlotFor s k →
    let i : Instr := .linkState tag link
    let offline : State := s.withHlc (s.hlc.answered i k (.link .offline))
    let denied (n : LaneNo) (reason : Reason) (t : State) : State :=
      ((t.setLane n ((s.lane n).shown (s.ms + s.sps.bank.denyDisplay * 100))).withJnl (s.jnl.denied n reason)).withAe
        (s.ae.without (.lane n (s.lane n).presentation))
    (2 ≤ link → exec i s = .next (s.withHlc (s.hlc.answered i k (.status .badField)))) ∧
    (link = 1 → exec i s = .next ((s.withHlc (s.hlc.answered i k (.link .online))).withIqu
      { s.iqu with link := .online })) ∧
    (link = 0 → s.iqu.link = .offline → exec i s = .next offline) ∧
    (link = 0 → s.iqu.pending = none → s.iqu.waiting = [] →
      exec i s = .next (offline.withIqu { s.iqu with link := .offline })) ∧
    (link = 0 → s.iqu.link = .online →
      (∀ p, s.iqu.pending = some p → s.iqu.waiting = [] →
        let settled : IquState := { s.iqu with
          link := .offline, pending := none, lastEnded := some (p.number, p.pass) }
        (p.lanePresent = false → exec i s = .next (offline.withIqu settled)) ∧
        (∀ reason, p.lanePresent = true → takesOutcome s p.lane p.presentation = true →
          policyDenies s p.image .miss = some reason →
          exec i s = .next (denied p.lane reason (offline.withIqu settled)))) ∧
      (∀ e reason, s.iqu.pending = none → s.iqu.waiting = [e] → takesOutcome s e.lane e.presentation = true →
        policyDenies s e.image .miss = some reason →
        exec i s = .next (denied e.lane reason (offline.withIqu { s.iqu with link := .offline, waiting := [] }))) ∧
      (∀ p e first second, s.iqu.pending = some p → p.lanePresent = true → s.iqu.waiting = [e] → p.lane ≠ e.lane →
        takesOutcome s p.lane p.presentation = true → takesOutcome s e.lane e.presentation = true →
        policyDenies s p.image .miss = some first → policyDenies s e.image .miss = some second →
        ∃ t, exec i s = .next t ∧ OnlyChanges [.lanes, .ae, .iqu, .jnl, .hlc] s t ∧
          t.iqu = { s.iqu with
            link := .offline, pending := none, waiting := [], lastEnded := some (p.number, p.pass) } ∧
          t.hlc = s.hlc.answered i k (.link .offline) ∧
          t.lane p.lane = (s.lane p.lane).shown (s.ms + s.sps.bank.denyDisplay * 100) ∧
          t.lane e.lane = (s.lane e.lane).shown (s.ms + s.sps.bank.denyDisplay * 100) ∧
          t.jnl = (s.jnl.denied p.lane first).denied e.lane second))

/-- R67, R74, R83, R84, R85, R87, R88, R89, R103, R156, R210: INQUIRY_ANSWER by its number. A matching answer ends the inquiry,
whatever its verdict; where no lane waits to inquire, no other follows, and otherwise, with the link ONLINE, that of the wait list's
head is sent, and its INQUIRY notice takes the place of one that waits in the outgoing queue (R83). REFUSE denies its lane
NOT_ADMITTED; UNREACHABLE gives it to the offline policy; the record of an ADMIT goes through the record checks, and it is installed
as a PUT whether its lane is present or gone. A lane that is gone takes nothing. A late ADMIT is installed; another late answer and
a stale one change nothing but the host link. BAD_FIELD, which leaves a pending inquiry as it is, answers a verdict that names
nothing, an ADMIT without a record, another verdict with one (R210), and a matching or late ADMIT whose record fails the field
checks (R156) or carries another pass ID than its inquiry. With no posting credit free the install outcome is BUSY. In MOUNTING and
READY the install's lookup joins the lookup queue, and a free port of a READY store takes the next operation at once (R67); in
FAULTED and FORMATTING the answer is replied to with the install outcome STORE_FAULT and the credit is given back (R74), where no
grant pass has a lane to grant. A lane that an ADMIT admits waits where no seat is free, and where one is free and no lane waits it
is granted with its credits; it waits too where the posting credit is refused. That an ADMIT's lane takes its outcome before the
install claims its credit, that the next INQUIRY notice joins the queue before the reply, and that an INQUIRY notice at the head of
the queue has begun to leave and is not replaced, is the model's choice (log entries 23, 57 and 13). -/
def Obligations.InquiryAnswersAreMatched : Prop :=
  ∀ (s : State) (k : SlotNo) (tag number verdict : Nat) (record : Option RawRecord), SlotFor s k →
    let i : Instr := .inquiryAnswer tag number verdict record
    let matching := s.iqu.pending.any (fun p => p.number == number)
    let late := !matching && s.iqu.lastEnded.any (fun e => e.1 == number)
    let denied (n : LaneNo) (reason : Reason) (t : State) : State :=
      ((t.setLane n ((s.lane n).shown (s.ms + s.sps.bank.denyDisplay * 100))).withJnl (s.jnl.denied n reason)).withAe
        (s.ae.without (.lane n (s.lane n).presentation))
    let queued (pass : Nat) : PscState :=
      { s.psc.queued (.service k) pass s.ms true with credits := s.psc.credits + 1 }
    let refused : Prop := exec i s = .next (s.withHlc (s.hlc.answered i k (.status .badField)))
    (3 ≤ verdict ∨ (verdict = 0 ∧ record = none) ∨ ((verdict = 1 ∨ verdict = 2) ∧ record.isSome = true) → refused) ∧
    (∀ raw, verdict = 0 → record = some raw → matching = true →
      rawAccepted raw = false ∨ s.iqu.pending.map (·.pass) ≠ some raw.passId → refused) ∧
    (∀ raw, verdict = 0 → record = some raw → late = true →
      rawAccepted raw = false ∨ s.iqu.lastEnded.map (·.2) ≠ some raw.passId → refused) ∧
    ((verdict = 1 ∨ verdict = 2) → record = none → late = true →
      exec i s = .next (s.withHlc (s.hlc.answered i k (.answer .late none))).served) ∧
    ((verdict = 1 ∨ verdict = 2) → record = none → matching = false → late = false →
      exec i s = .next (s.withHlc (s.hlc.answered i k (.answer .stale none))).served) ∧
    (∀ raw, verdict = 0 → record = some raw → matching = false → late = false →
      exec i s = .next (s.withHlc (s.hlc.answered i k (.answer .stale none)))) ∧
    (∀ p, s.iqu.pending = some p → p.number = number → s.iqu.waiting = [] ∨ s.iqu.link = .online →
      let ended : IquState :=
        { s.iqu with pending := none, lastEnded := some (p.number, p.pass) }.sent s.ms s.sps.bank.inquiryTimeout
      let h : HlcState := match s.iqu.waiting with
        | [] => s.hlc
        | e :: _ => { s.hlc with queue := s.hlc.queue.take 1 ++ (s.hlc.queue.drop 1).filter (fun f => !f.isInquiry) ++
            [.inquiry ended.number (laneNumber e.lane) s.sps.bank.bankId e.image] }
      let answered : State := (s.withHlc (h.answered i k (.answer .ok none))).withIqu ended
      let takes := p.lanePresent = true ∧ takesOutcome s p.lane p.presentation = true
      (verdict = 1 → record = none → takes → exec i s = .next (denied p.lane .notAdmitted answered).served) ∧
      (∀ reason, verdict = 2 → record = none → takes → policyDenies s p.image .miss = some reason →
        exec i s = .next (denied p.lane reason answered).served) ∧
      ((verdict = 1 ∨ verdict = 2) → record = none → p.lanePresent = false → exec i s = .next answered.served) ∧
      (∀ raw, verdict = 0 → record = some raw → rawAccepted raw = true → p.pass = raw.passId →
        let used := s.psc.postings.length + s.psc.credits
        let admits := takes ∧ recordDenies s (rawToRecord raw) = none ∧ scheduleDenies s = none
        let installs (u : State) : Prop :=
          (p.lanePresent = false → exec i s = .next u.served) ∧
          (∀ reason, takes → recordDenies s (rawToRecord raw) = some reason →
            exec i s = .next (denied p.lane reason u).served) ∧
          (admits → windowFree s = false ∨ (s.sm.waiting = [] ∧ journalGrants s = true ∧ postingGrants s = false) →
            exec i s = .next (((u.setLane p.lane
              { s.lane p.lane with state := .waiting, admission := some .storeBacked }).withSm { s.sm with
                waiting := s.sm.waiting ++ [{ lane := p.lane, presentation := p.presentation, admission := .storeBacked
                                              pass := ((s.lane p.lane).pass.map (·.1)).getD 0
                                              timer := some (s.ms + s.sps.bank.waitLimit * 1000) }] }).served))
        let grants (u : State) : Prop := ∀ w, admits → s.sm.waiting = [] → s.sm.window = some w → w.granted < w.seats →
          journalGrants s = true → exec i s = .next ((((u.setLane p.lane { s.lane p.lane with
            state := .granted, admission := some .storeBacked
            stateTimer := some (s.ms + s.sps.bank.passThrough * 1000)
            grant := some { window := w.number, day := s.du.day, postingCredit := true } }).withSm
            { s.sm with window := some { w with granted := w.granted + 1 } }).withJnl
            { s.jnl with credits := s.jnl.credits + 1 }).withPsc { u.psc with credits := u.psc.credits + 1 }).served
        let holds : State :=
          ((s.withHlc (h.holding i k (.install .ok))).withIqu ended).withPsc (queued raw.passId)
        let ends (st : Status) : State := (s.withHlc (h.answered i k (.answer .ok (some st)))).withIqu ended
        (postingGrants s = true → LookupsQueue s → installs holds) ∧
        (postingGrants s = true → LookupsEnd s → NoSeatWork s → installs (ends .storeFault)) ∧
        (postingGrants s = false → installs (ends .busy)) ∧
        (used + 2 ≤ 32 → LookupsQueue s → grants holds) ∧
        (used + 2 ≤ 32 → LookupsEnd s → grants (ends .storeFault)) ∧
        (used + 1 = 32 → grants (ends .busy)))) ∧
    (∀ raw, verdict = 0 → record = some raw → late = true → rawAccepted raw = true →
      s.iqu.lastEnded.map (·.2) = some raw.passId →
      (postingGrants s = true → LookupsQueue s →
        exec i s = .next ((s.withHlc (s.hlc.holding i k (.install .late))).withPsc (queued raw.passId)).served) ∧
      (postingGrants s = true → LookupsEnd s → NoSeatWork s →
        exec i s = .next (s.withHlc (s.hlc.answered i k (.answer .late (some .storeFault))))) ∧
      (postingGrants s = false →
        exec i s = .next (s.withHlc (s.hlc.answered i k (.answer .late (some .busy)))).served))

/-- R49, R83, R84, R85, R86, R90, R92, R93, R101, R103: the inquiry timeout and the wait of a listed lane raise INQUIRY_TIMEOUT and
give the lane to the offline policy; the timed-out inquiry becomes the last ended one, and where its lane has gone nothing else is
done for it. A denial of the policy or of the outcome gate ends in DENIED. A lane admitted PROVISIONAL waits where no seat is free,
and where one is free and no lane waits it is granted, with its pass on the provisional list. With the link ONLINE and lanes on the
wait list, the inquiry of its head is then sent: the next number, its own timeout afresh, its entry gone from the list, and its
INQUIRY notice, the only one that waits, the last frame of the outgoing queue; that one at the head has begun to leave is the
model's choice (log entry 13). An entry whose wait ends leaves the others in their order. -/
def Obligations.InquiryTimersExpire : Prop :=
  ∀ (s : State) (x : Nat), mainOn s = true →
    let ms := max s.ms x
    let raised (t : State) : Prop := t.ms = ms ∧ t.hlc.flags.getD EventClass.inquiryTimeout.code false = true
    let decided (n : LaneNo) (presentation : Nat) (image : List Byte) (q : IquState) (t : State) : Prop :=
      let l := s.lane n
      let denial := (policyDenies s image .miss).or (scheduleDenies s)
      (∀ reason, denial = some reason → OnlyChanges [.lanes, .ae, .iqu, .jnl, .hlc, .ms] s t ∧ t.iqu = q ∧
        t.lanes = s.lanes.set n (l.shown (ms + s.sps.bank.denyDisplay * 100)) ∧
        t.jnl = s.jnl.denied n reason ∧ t.ae = s.ae.without (.lane n presentation)) ∧
      (denial = none → windowFree s = false → OnlyChanges [.lanes, .iqu, .sm, .hlc, .ms] s t ∧ t.iqu = q ∧
        t.lanes = s.lanes.set n { l with state := .waiting, admission := some .provisional } ∧
        t.sm = { s.sm with waiting := s.sm.waiting ++
          [{ lane := n, presentation := presentation, admission := .provisional, pass := (l.pass.map (·.1)).getD 0
             timer := some (ms + s.sps.bank.waitLimit * 1000) }] }) ∧
      (∀ w, denial = none → s.sm.waiting = [] → s.sm.window = some w → w.granted < w.seats →
        journalGrants s = true → s.iqu.provisional.length < 64 →
        OnlyChanges [.lanes, .iqu, .sm, .jnl, .hlc, .ms] s t ∧
        t.iqu = { q with provisional := s.iqu.provisional ++
          [{ pass := (l.pass.map (·.1)).getD 0, time := s.now }] } ∧
        t.lanes = s.lanes.set n { l with
          state := .granted, admission := some .provisional, stateTimer := some (ms + s.sps.bank.passThrough * 1000)
          grant := some { window := w.number, day := s.du.day, postingCredit := false } } ∧
        t.sm = { s.sm with window := some { w with granted := w.granted + 1 } } ∧
        t.jnl = { s.jnl with credits := s.jnl.credits + 1 })
    (∀ p, s.iqu.pending = some p → p.timeout = some x → s.iqu.waiting = [] ∨ s.iqu.link = .online →
      let ended : IquState :=
        { s.iqu with pending := none, lastEnded := some (p.number, p.pass) }.sent ms s.sps.bank.inquiryTimeout
      let sent (t : State) : Prop := ∀ e rest, s.iqu.waiting = e :: rest → ∃ before, t.hlc.queue = before ++
        [.inquiry ((s.iqu.number + 1) % 256) (laneNumber e.lane) s.sps.bank.bankId e.image] ∧
        ∀ f ∈ before.drop 1, f.isInquiry = false
      (p.lanePresent = true → takesOutcome s p.lane p.presentation = true →
        ∃ t, exec .inquiryTimeoutExpiry s = .next t ∧ raised t ∧ sent t ∧
          decided p.lane p.presentation p.image ended t) ∧
      (p.lanePresent = false → ∃ t, exec .inquiryTimeoutExpiry s = .next t ∧ raised t ∧ sent t ∧
        OnlyChanges [.iqu, .hlc, .ms] s t ∧ t.iqu = ended)) ∧
    (∀ before e after, s.iqu.waiting = before ++ e :: after → (∀ y ∈ before ++ after, y.lane ≠ e.lane) →
      e.timer = some x → takesOutcome s e.lane e.presentation = true →
      ∃ t, exec (.inquiryWaitExpiry e.lane) s = .next t ∧ raised t ∧
        decided e.lane e.presentation e.image { s.iqu with waiting := before ++ after } t)

/-! ### The seat meter (chapter 5) -/

/-- R102, R103: the grant step. A refused journal credit raises JOURNAL_FULL and ends the pass; a refused posting credit passes
the entry over; otherwise the lane holds a seat, the credits and the pass-through time, and its entry is gone. The grant pass
offers the step to the waiting list in its order: with credits for all, the first lanes are granted, as many as there are free
seats, and the others wait on in their order; without a window, a free seat or a waiting lane it makes nothing. -/
def Obligations.GrantStepTakesSeatAndCredits : Prop :=
  (∀ (s : State) (e : SeatWait) (w : Window), s.sm.window = some w →
    let backed := if e.admission = .storeBacked then 1 else 0
    (journalGrants s = false → (grantStep e s).1 = false ∧ OnlyChanges [.hlc] s (grantStep e s).2 ∧
      (grantStep e s).2.hlc.flags.getD EventClass.journalFull.code false = true) ∧
    (journalGrants s = true → e.admission = .storeBacked → postingGrants s = false → grantStep e s = (true, s)) ∧
    (journalGrants s = true → (e.admission = .storeBacked → postingGrants s = true) →
      ∃ t, grantStep e s = (true, t) ∧ OnlyChanges [.lanes, .psc, .iqu, .sm, .jnl] s t ∧
        t.lanes = s.lanes.set e.lane { s.lane e.lane with
          state := .granted, stateTimer := some (s.ms + s.sps.bank.passThrough * 1000)
          grant := some { window := w.number, day := s.du.day, postingCredit := e.admission == .storeBacked } } ∧
        t.sm = { s.sm with window := some { w with granted := w.granted + 1 }
                           waiting := s.sm.waiting.filter (fun x => x.lane != e.lane) } ∧
        t.jnl = { s.jnl with credits := s.jnl.credits + 1 } ∧
        t.psc = { s.psc with credits := s.psc.credits + backed } ∧
        (e.admission = .storeBacked → t.iqu = s.iqu) ∧
        (e.admission = .provisional → s.iqu.provisional.length < 64 → t.iqu = { s.iqu with
          provisional := s.iqu.provisional ++ [{ pass := e.pass, time := s.now }] }) ∧
        (e.admission = .provisional → s.iqu.provisional.length = 64 → t.iqu = { s.iqu with
          provisional := s.iqu.provisional.tail ++ [{ pass := e.pass, time := s.now }] }))) ∧
  (∀ s : State,
    (windowFree s = false ∨ s.sm.waiting = [] → grantPass s = s) ∧
    (∀ e es, s.sm.waiting = e :: es → windowFree s = true → journalGrants s = false →
      OnlyChanges [.hlc] s (grantPass s) ∧
        (grantPass s).hlc.flags.getD EventClass.journalFull.code false = true) ∧
    (∀ w, s.sm.window = some w → (s.sm.waiting.map (·.lane)).Nodup → s.sps.epoch < 65535 →
      s.jnl.records.length + s.jnl.credits + s.sm.waiting.length ≤ 1024 →
      s.psc.postings.length + s.psc.credits + s.sm.waiting.length ≤ 32 →
      let k := min (w.seats - w.granted) s.sm.waiting.length
      let t := grantPass s
      OnlyChanges [.lanes, .psc, .iqu, .sm, .jnl] s t ∧
        t.sm = { s.sm with window := some { w with granted := w.granted + k }, waiting := s.sm.waiting.drop k } ∧
        t.jnl = { s.jnl with credits := s.jnl.credits + k } ∧
        (∀ e ∈ s.sm.waiting.take k, (t.lane e.lane).state = .granted ∧
          (t.lane e.lane).grant.map (·.window) = some w.number) ∧
        (∀ n, (∀ e ∈ s.sm.waiting.take k, e.lane ≠ n) → t.lane n = s.lane n)))

/-- R97 to R100, R102, R103, R110, R112, R114, R128: an accepted chair pulse in PULSE source and an expiry of the window timer open a
window. The window that ends hands over its figures where it is counted, with one more window ended with lanes waiting where lanes
wait, and the grant pass is then made over them in the new window. A pulse under a declared HALT ends it first, with its STOP record,
written or dropped, and the halt as reported. In TIMER source a chair pulse is only noted. A pulse that is not held for a sampling
period, or is seen while CHAIR is still accepted high, changes the level of CHAIR alone, and so does one that the part's first sample
shows high (R97). What the operands of the pulse stand for, and that a pulse held for exactly the sampling period is accepted, is the
model's choice (log entries 53 and 68). -/
def Obligations.WindowsOpen : Prop :=
  ∀ (s : State) (seen held : Nat), mainOn s = true →
    let pulse : Instr := .chairPulse seen held
    let ended : DayCounters := match s.sm.window with
      | none => s.jnl.day
      | some w => if w.counted then { s.jnl.day with
          windows := addSat s.jnl.day.windows 1, seatsOffered := addSat s.jnl.day.seatsOffered w.seats
          seatsGranted := addSat s.jnl.day.seatsGranted w.granted
          endedWaiting := if s.sm.waiting = [] then s.jnl.day.endedWaiting
            else addSat s.jnl.day.endedWaiting 1 } else s.jnl.day
    let number := (s.sm.windowNo + 1) % 65536
    let admits := s.du.day != 0 && (s.du.sched == .isOpen || s.du.sched == .lastCall)
    let fresh : Window := { number := number, seats := s.sps.bank.seatCount, granted := 0, counted := admits }
    let fallen := seen + held
    let low := max fallen s.sps.filterSince + s.sps.bank.filter.period
    let atFirst := decide (seen ≤ s.sps.startedAt) && decide (s.sps.startedAt < fallen)
    let highNow := (s.sm.chair.high && decide (seen < s.sm.chair.low)) || atFirst
    let noted : SmState := { s.sm with lastPulse := some s.now, chair := { high := true, fall := fallen, low := low } }
    let opened (time : Nat) (m : SmState) : State := ((s.withMs (max s.ms time)).withJnl { s.jnl with day := ended }).withSm
      { m with window := some fresh, windowNo := number }
    let deadline (time : Nat) : Timer := some (max s.ms time + s.sps.bank.haltDetect * 1000)
    (s.pulse s.sm.chair seen held).2 = (if highNow then none else s.acceptAt seen held) ∧
    ((s.pulse s.sm.chair seen held).2 = none → exec pulse s = .next (s.withSm
      { s.sm with chair := { high := highNow, fall := fallen, low := low } })) ∧
    (∀ time, (s.pulse s.sm.chair seen held).2 = some time →
      (s.sps.bank.source = .timer → exec pulse s = .next ((s.withMs (max s.ms time)).withSm noted)) ∧
      (s.sps.bank.source = .pulse → s.sm.halt = none →
        let t := (opened time noted).granting
        exec pulse s = .next (if s.sm.reference.isSome && admits then
          t.withSm { t.sm with reference := some s.now, haltTimer := deadline time } else t)) ∧
      (∀ start, s.sps.bank.source = .pulse → s.sm.halt = some start → ∃ u : State, exec pulse s = .next u.granting ∧
        OnlyChanges [.sm, .du, .jnl, .hlc, .sps, .ms] s u ∧ u.ms = max s.ms time ∧ u.jnl.day = ended ∧
        u.sm = { noted with
          halt := none, window := some fresh, windowNo := number
          reference := if admits then some s.now else s.sm.reference
          haltTimer := if admits then deadline time else s.sm.haltTimer } ∧
        u.du = { s.du with halt := none, spans := u.du.spans } ∧
        (s.du.halt = none → u.du.spans = s.du.spans ∧ u.jnl = { s.jnl with day := ended }) ∧
        (∀ h, s.du.halt = some h →
          u.du.spans = (if (s.du.hold.isSome || s.du.backup.isSome) && decide (s.du.sec < s.sps.schedule.closeSec)
            then s.du.spans else s.du.spans.map (fun x => { x with isOpen := false })) ∧
          (recordFree s = true → u.jnl.records = s.jnl.records ++
            [{ stamp := (readyStamp s).nextStamp, time := s.now, body := .stop h s.now .halt }]) ∧
          (recordFree s = false → u.jnl.records = s.jnl.records ∧
            u.jnl.cumulative.dropped = addSat s.jnl.cumulative.dropped 1 ∧
            u.hlc.flags.getD EventClass.journalFull.code false = true)))) ∧
    (∀ x, s.sm.windowTimer = some x →
      let t := (opened x s.sm).granting
      exec .windowTimerExpiry s = .next (t.withSm { t.sm with
        windowTimer := some (max s.ms x + s.sps.bank.timerPeriod * 100) }))

/-- R18, R106, R108, R111, R114, R127: the halt-detect timer expires: HALT is declared from the reference, reported to the day unit
and raised, and detection is disarmed. Each waiting lane is denied HALTED, each granted lane is cancelled, and every other lane stays
as it is. The day unit adds the seconds of the backdated span that lie on the current day, within the schedule and outside the
accrued spans, as far as the cap allows, and enters them as closed spans; with no more than 3 spans held none is merged, so that it
adds them all, and of those of the last 120 s the spans keep each. The wait timer of a waiting lane expires: its entry leaves the
list, the lane is denied WAIT_TIMEOUT and the statistic is counted. -/
def Obligations.HaltAndWaitTimeout : Prop :=
  (∀ (s : State) (x : Nat) (start : Time), mainOn s = true → s.sm.haltTimer = some x → s.sm.reference = some start →
    let seconds := s.sps.schedule.seconds
    let added := s.backdated start
    ∃ t, exec .haltDetectExpiry s = .next t ∧ OnlyChanges [.lanes, .ae, .psc, .sm, .du, .jnl, .hlc, .ms] s t ∧
      t.ms = max s.ms x ∧ t.hlc.flags.getD EventClass.halt.code false = true ∧
      t.sm = { s.sm with halt := some start, reference := none, haltTimer := none, waiting := [], window := t.sm.window } ∧
      t.jnl.records = s.jnl.records ∧ t.psc.postings = s.psc.postings ∧
      ((∀ e ∈ s.sm.waiting, (s.lane e.lane).state = .waiting) → LanesCleared .halted (max s.ms x) s t) ∧
      (∀ n, (s.lane n).state = .passing → t.lane n = s.lane n ∨ ∃ e ∈ s.sm.waiting, e.lane = n) ∧
      t.du = { s.du with halt := some start, lost := t.du.lost, spans := t.du.spans } ∧
      s.du.lost ≤ t.du.lost ∧ (s.du.lost ≤ seconds → t.du.lost ≤ seconds) ∧
      (SpansOk s → start.day ≤ s.du.day → s.du.lost ≤ seconds →
        t.du.lost ≤ s.du.lost + added.length ∧
        (s.du.spans.length ≤ 3 → t.du.lost = min seconds (s.du.lost + added.length) ∧
          (s.du.lost + added.length ≤ seconds → ∀ y ∈ added, s.du.sec < y + 120 →
            ∃ z ∈ t.du.spans, z.start ≤ y ∧ y < z.finish ∧ z.isOpen = false)))) ∧
  (∀ (s : State) (n : LaneNo) (e : SeatWait) (before after : List SeatWait) (x : Nat), mainOn s = true →
    s.sm.waiting = before ++ e :: after → e.lane = n → (∀ y ∈ before ++ after, y.lane ≠ n) → e.timer = some x →
    let denied := s.jnl.denied n .waitTimeout
    let now := s.withMs (max s.ms x)
    exec (.waitTimerExpiry n) s = .next ((((now.withSm { s.sm with waiting := before ++ after }).setLane n
      ((s.lane n).shown (max s.ms x + s.sps.bank.denyDisplay * 100))).withJnl { denied with
        day := { denied.day with waitTimeouts := addSat denied.day.waitTimeouts 1 } }).withAe
      (s.ae.without (.lane n (s.lane n).presentation))))

/-! ### The day unit (chapter 6) -/

/-- R110, R121, R122, R126: the schedule state follows the day second. SCHEDULE_SET is refused outside its limits; a taken one replaces
the schedule, reduces the lost seconds to the new scheduled seconds and evaluates the schedule state, and a change arms or disarms
halt detection. The accrued spans stay, and the open one is closed where it stands when no stop is in force or the day second has
reached the new close (R126). -/
def Obligations.ScheduleIsSetAndFollowed : Prop :=
  (∀ (x : Schedule) (sec : Nat), scheduleAccepted x.openSec x.closeSec x.lead = true →
    (sec < x.openSec → x.stateAt sec = .beforeOpen) ∧
    (x.openSec ≤ sec → sec + x.lead + 1 ≤ x.closeSec → x.stateAt sec = .isOpen) ∧
    (x.closeSec ≤ sec + x.lead → sec + 1 ≤ x.closeSec → x.stateAt sec = .lastCall) ∧
    (x.closeSec ≤ sec → x.stateAt sec = .closed)) ∧
  (∀ (s : State) (k : SlotNo) (tag openSec closeSec lead : Nat), SlotFor s k →
    let i : Instr := .scheduleSet tag openSec closeSec lead
    let x : Schedule := { openSec := openSec, closeSec := closeSec, lead := lead }
    let allowed := openSec ≤ 86399 ∧ closeSec ≤ 86399 ∧ openSec < closeSec ∧ 3600 ≤ closeSec - openSec ∧ lead ≤ 1800
    let state := if s.du.day = 0 then SchedState.beforeOpen else x.stateAt s.du.sec
    (¬ allowed → exec i s = .next (s.withHlc (s.hlc.answered i k (.status .badField)))) ∧
    (allowed → ∃ t, exec i s = .next t ∧ OnlyChanges [.sps, .du, .sm, .hlc] s t ∧
      t.sps = { s.sps with schedule := x } ∧ t.hlc = s.hlc.answered i k (.schedule x state) ∧
      t.sm = s.meterAt state s.now ∧
      t.du.lost = min s.du.lost (closeSec - openSec) ∧ t.du.sched = state ∧ t.now = s.now ∧ t.du.log = s.du.log ∧
      t.du.spans = (if (s.du.halt.isSome || s.du.hold.isSome || s.du.backup.isSome) && decide (s.du.sec < closeSec)
        then s.du.spans else s.du.spans.map (fun x => { x with isOpen := false })) ∧
      t.du.hold = s.du.hold ∧ t.du.halt = s.du.halt ∧ t.du.backup = s.du.backup))

/-- R119, R126, R122, R110, R67: a clock advance within a day. The second just ended is lost where a stop is in force, the second
lies within the schedule, no closed span covers it and the cap is not reached. It extends the open span, or a new one opens with it,
for which the spans that ended 120 s or more ago leave and, with 8 still held, the two oldest are merged. Then the day second moves
on, the open span is closed where no stop is in force or the second has reached the close, the schedule state follows the second, and
a change arms or disarms halt detection. An unset clock does not advance. Where the store is READY with its port
free, the next operation in the table of R67 is selected then. -/
def Obligations.ClockAdvancesWithinADay : Prop :=
  ∀ s : State, s.sps.retainedLost = false →
    let sec := s.du.sec
    let counts := (s.du.halt.isSome || s.du.hold.isSome || s.du.backup.isSome) && s.sps.schedule.openSec ≤ sec &&
      sec < s.sps.schedule.closeSec && !s.du.spans.any (fun x => !x.isOpen && x.start ≤ sec && sec < x.finish) &&
      s.du.lost < s.sps.schedule.seconds
    let next (t : State) : State := if mainOn s then t.served else t
    (s.du.day = 0 → exec .clockAdvance s = .next (next s)) ∧
    (s.du.day ≠ 0 → sec + 1 < daySeconds → ∃ t, exec .clockAdvance s = .next (next t) ∧ OnlyChanges [.sm, .du] s t ∧
      t.sm = s.meterAt (s.sps.schedule.stateAt (sec + 1)) { day := s.du.day, sec := sec + 1 } ∧
      t.du = { s.du with
        sec := sec + 1, sched := s.sps.schedule.stateAt (sec + 1)
        lost := if counts then s.du.lost + 1 else s.du.lost, spans := t.du.spans } ∧
      (let goesOn := (s.du.halt.isSome || s.du.hold.isSome || s.du.backup.isSome) &&
         decide (sec + 1 < s.sps.schedule.closeSec)
       let settled (xs : List Span) : List Span :=
         if goesOn then xs else xs.map (fun x => { x with isOpen := false })
       let recent := s.du.spans.filter (fun x => sec < x.finish + 120)
       let room : List Span := match recent with
         | x :: y :: rest => if recent.length < 8 then recent else { x with finish := y.finish } :: rest
         | _ => recent
       (counts = false → t.du.spans = settled s.du.spans) ∧
       (counts = true → (∃ x ∈ s.du.spans, x.isOpen = true) → t.du.spans =
         settled (s.du.spans.map (fun x => if x.isOpen then { x with finish := sec + 1 } else x))) ∧
       (counts = true → (∀ x ∈ s.du.spans, x.isOpen = false) → SpansOk s →
         t.du.spans = settled (room ++ [{ start := sec, finish := sec + 1, isOpen := true }]))))

/-- R119, R129, R131, R133, R183: the day rolls over at the advance from day second 86,399: the closed day leaves its entry, its
CLOSURE posting or unsaved mark, and its DAY_CLOSE record, as the predicate on a closed day says (DayClosed). What becomes of an
entry of the day that no CLOSURE_NOTE made is the model's choice (log entry 73). The next day begins at second 0; past day 65,535
the clock is unset and CLOCK_UNSET is raised. The schedule state of the new day arms or disarms halt detection, and an unset clock
disarms it (R110). Where the store is READY with its port free, the next operation in the table of R67 is selected then. -/
def Obligations.DayRollsOver : Prop :=
  ∀ s : State, s.sps.retainedLost = false → s.du.day ≠ 0 → s.du.sec = 86399 → s.sps.schedule.closeSec ≤ 86399 →
    ∃ t, exec .clockAdvance s = .next (if mainOn s then t.served else t) ∧ DayClosed s t ∧
      t.du.day = (if s.du.day = 65535 then 0 else s.du.day + 1) ∧ t.du.sec = 0 ∧
      (s.du.day = 65535 → t.hlc.flags.getD EventClass.clockUnset.code false = true ∧ t.du.sched = .beforeOpen ∧
        t.sm = { s.sm with reference := none, haltTimer := none }) ∧
      (s.du.day ≠ 65535 → t.du.sched = s.sps.schedule.stateAt 0 ∧
        t.sm = s.meterAt (s.sps.schedule.stateAt 0) { day := s.du.day + 1, sec := 0 })

/-- R110, R120, R126, R130, R131, R133, R183: TIME_SET by the given time and the clock. At a later second of the same day the skipped
seconds are not lost: the open span ends at the second before the set, and under a stop a new span opens at the given second where
that lies within the schedule, with the room for it that R126 makes. A set that is taken evaluates the schedule state,
which arms or disarms halt detection; where it is armed before and after, it starts again at the clock after the set. A later day
closes the current one as a rollover does, with its entry, its CLOSURE posting or unsaved mark, and its DAY_CLOSE record (DayClosed). A
free port of a READY store then takes the next operation. That a refusal with BAD_FIELD carries its status alone, that the reply
joins the queue behind the notices of a day that it closes, and what becomes of that day's entry where no CLOSURE_NOTE made it, is
the model's choice (log entries 65, 57 and 73). -/
def Obligations.TimeSetComparesWithTheClock : Prop :=
  ∀ (s : State) (k : SlotNo) (tag day sec : Nat), SlotFor s k →
    let i : Instr := .timeSet tag day sec
    let given : Time := { day := day, sec := sec }
    let new := s.sps.schedule.stateAt sec
    let same (st : Status) : State := s.withHlc (s.hlc.answered i k (.clock st s.now))
    (day = 0 ∨ 86400 ≤ sec → exec i s = .next (s.withHlc (s.hlc.answered i k (.status .badField)))) ∧
    (day ≠ 0 → sec < 86400 → s.du.day ≠ 0 →
      (day < s.du.day ∨ (day = s.du.day ∧ sec < s.du.sec) → exec i s = .next (same .timeBackward).served) ∧
      (day = s.du.day → sec = s.du.sec → exec i s = .next (same .ok).served) ∧
      (day = s.du.day → s.du.sec < sec → ∃ t : State, exec i s = .next t.served ∧ OnlyChanges [.sm, .du, .hlc] s t ∧
        t.hlc = s.hlc.answered i k (.clock .ok given) ∧ t.sm = s.meterAfterSet new given ∧
        t.du = { s.du with sec := sec, sched := new, spans := t.du.spans } ∧
        (let stops := s.du.halt.isSome = true ∨ s.du.hold.isSome = true ∨ s.du.backup.isSome = true
         let reopens := stops ∧ s.sps.schedule.openSec ≤ sec ∧ sec < s.sps.schedule.closeSec
         let closed := s.du.spans.map (fun x =>
           if x.isOpen then { x with finish := s.du.sec, isOpen := false } else x)
         let recent := closed.filter (fun x => sec < x.finish + 120)
         let room : List Span := match recent with
           | x :: y :: rest => if recent.length < 8 then recent else { x with finish := y.finish } :: rest
           | _ => recent
         (¬ reopens → t.du.spans = closed) ∧
         (reopens → SpansOk s → t.du.spans = room ++ [{ start := sec, finish := sec, isOpen := true }]))) ∧
      (s.du.day < day → ∃ t : State, exec i s = .next t.served ∧ DayClosed s t ∧ t.now = given ∧
        t.du.sched = new ∧ t.sm = s.meterAfterSet new given ∧
        t.hlc.queue.getLast? = some (.reply k 11 tag (.clock .ok given)))) ∧
    (day ≠ 0 → sec < 86400 → s.du.day = 0 → ∃ t : State, exec i s = .next t.served ∧ OnlyChanges [.sm, .du, .hlc] s t ∧
      t.hlc = s.hlc.answered i k (.clock .ok given) ∧ t.sm = s.meterAt new given ∧
      t.du = { s.du with day := day, sec := sec, sched := new, lost := 0, spans := [] })

/-- R18, R108, R123, R124, R128: holds. HOLD_BEGIN sets the hold at the clock; at its beginning the waiting lanes are denied HOLD
and the granted ones are cancelled, and every other lane stays as it is. A second one replaces its cause only. HOLD_END clears it
and writes its STOP record where a position is free. That the reply joins the queue behind the notices of the lanes and of the
record is the model's choice (log entry 57), and so are the fields of a HOLD_END reply that finds the hold clear (log entry 69). -/
def Obligations.HoldsBeginAndEnd : Prop :=
  ∀ (s : State) (k : SlotNo) (tag cause : Nat), SlotFor s k →
    let begin_ : Instr := .holdBegin tag cause
    let end_ : Instr := .holdEnd tag
    (3 ≤ cause → exec begin_ s = .next (s.withHlc (s.hlc.answered begin_ k (.status .badField)))) ∧
    (∀ c, holdCauseOf cause = some c → s.du.hold = none →
      let h : Hold := { cause := c, start := s.now }
      (s.sm.waiting = [] → (∀ n, (s.lane n).state ≠ .granted) →
        exec begin_ s = .next ((s.withHlc (s.hlc.answered begin_ k (.hold (some h)))).withDu
          { s.du with hold := some h })) ∧
      ((∀ e ∈ s.sm.waiting, (s.lane e.lane).state = .waiting) → ∃ t, exec begin_ s = .next t ∧
        OnlyChanges [.lanes, .ae, .psc, .sm, .du, .jnl, .hlc] s t ∧ t.du = { s.du with hold := some h } ∧
        t.sm = { s.sm with waiting := [], window := t.sm.window } ∧ LanesCleared .hold s.ms s t ∧
        t.hlc.queue.getLast? = some (.reply k 13 tag (.hold (some h))))) ∧
    (∀ c h, holdCauseOf cause = some c → s.du.hold = some h →
      exec begin_ s = .next ((s.withHlc (s.hlc.answered begin_ k (.hold (some { h with cause := c })))).withDu
        { s.du with hold := some { h with cause := c } })) ∧
    (s.du.hold = none → exec end_ s = .next (s.withHlc (s.hlc.answered end_ k (.hold none)))) ∧
    (∀ h, s.du.hold = some h → ∃ t, exec end_ s = .next t ∧ OnlyChanges [.du, .jnl, .sps, .hlc] s t ∧
      t.du.hold = none ∧ t.du.lost = s.du.lost ∧ t.now = s.now ∧
      t.hlc.queue.getLast? = some (.reply k 14 tag (.hold (some h))) ∧
      (recordFree s = true → t.jnl.records = s.jnl.records ++
        [{ stamp := (readyStamp s).nextStamp, time := s.now, body := .stop h.start s.now .hold }]) ∧
      (recordFree s = false → t.jnl.records = s.jnl.records ∧
        t.jnl.cumulative.dropped = addSat s.jnl.cumulative.dropped 1))

/-- R131, R134, R135: a CLOSURE_NOTE for a day outside the last 96 is OUT_OF_RANGE; a valid one sets L_central, at most 1,000, in
the entry of its day, or in a new entry with no local figures; of 96 entries the one furthest from the new day leaves first, the
earlier of two at equal distance. Its CLOSURE posting joins the queue in free space, where a free port of a READY store takes the
next operation at once (R67), or the entry is marked unsaved. CLOSURE_GET carries the entries at or above the first day, in order,
from 1 to 12 of them, each with its effective loss, and the number beyond them. -/
def Obligations.ClosureLogRequests : Prop :=
  (∀ (s : State) (k : SlotNo) (tag day loss : Nat), SlotFor s k → LogOk s →
    let i : Instr := .closureNote tag day loss
    let inRange := 1 ≤ day ∧ s.du.day ≤ day + 95 ∧ day ≤ s.du.day
    let old := s.du.log.find? (fun e => e.day == day)
    let free : Bool := s.psc.postings.length + s.psc.credits < 32
    let noted (e : ClosureEntry) : ClosureEntry := { e with central := some (min 1000 loss), unsaved := !free }
    let kept := noted (old.getD { day := day, scheduled := 0, lost := 0, local_ := 0, central := none, final := false
                                  unsaved := false })
    (¬ inRange → exec i s = .next (s.withHlc (s.hlc.answered i k (.status .outOfRange)))) ∧
    (inRange → ∃ t : State, exec i s = .next t.served ∧ OnlyChanges [.du, .psc, .jnl, .hlc] s t ∧
      t.du = { s.du with log := t.du.log } ∧ kept ∈ t.du.log ∧ LogOk t ∧
      t.psc.postings = s.psc.postings ++ (if free then [.closure kept] else []) ∧
      t.hlc = s.hlc.answered i k (.closureNote kept (effectiveLoss t day) free) ∧
      (old.isSome = true → t.du.log = s.du.log.map (fun e => if e.day = day then kept else e)) ∧
      (old = none → s.du.log.length < 96 → t.du.log.filter (fun e => e.day != day) = s.du.log) ∧
      (old = none → s.du.log.length = 96 → ∃ f ∈ s.du.log,
        (∀ e ∈ s.du.log, dayDistance e.day day < dayDistance f.day day ∨
          (dayDistance e.day day = dayDistance f.day day ∧ f.day ≤ e.day)) ∧
        t.du.log.filter (fun e => e.day != day) = s.du.log.filter (fun e => e.day != f.day)))) ∧
  (∀ (s : State) (k : SlotNo) (tag day count : Nat), SlotFor s k →
    let i : Instr := .closureGet tag day count
    let found := s.du.log.filter (fun e => day ≤ e.day)
    let upTo := if count = 0 then 1 else if 12 < count then 12 else count
    exec i s = .next (s.withHlc (s.hlc.answered i k (.closures
      ((found.take upTo).map (fun e => (e, effectiveLoss s e.day))) (found.length - min upTo found.length)))))

/-- R132, R143 to R145: the effective loss of a day; the weight of a CONSECUTIVE pass, day by day: the loss of a used day that
reaches the threshold and is at least 1, the past-unused credit of an unused day that has passed, 1,000 for an unused day to
come; and the weight of a FLEX pass: the losses of its earliest used days, as many as N, and for each day of N beyond them the
past-unused credit when the window has ended and 1,000 before. The offsets of a day set are its days in rising order. -/
def Obligations.LossesWeighAPass : Prop :=
  (∀ (s : State) (day : Nat),
    let central (o : Option ClosureEntry) := (o.bind (·.central)).getD 0
    (s.du.day ≠ 0 → effectiveLoss s s.du.day =
      max (s.du.lost * 1000 / s.sps.schedule.seconds) (central (entryOf s.du.log s.du.day))) ∧
    (∀ e, day ≠ s.du.day ∨ s.du.day = 0 → entryOf s.du.log day = some e →
      effectiveLoss s day = max e.local_ (e.central.getD 0)) ∧
    (day ≠ s.du.day ∨ s.du.day = 0 → entryOf s.du.log day = none → effectiveLoss s day = 0)) ∧
  (∀ (s : State) (first : Nat) (set : DaySet) (e : ProductEntry),
    consecutiveWeight s first set e = ((List.range e.span).map (fun k =>
      let loss := effectiveLoss s (first + k)
      if set.getLsbD k then (if max 1 s.sps.bank.threshold ≤ loss then loss else 0)
      else if first + k < s.du.day then e.past
      else 1000)).sum) ∧
  (∀ (s : State) (first : Nat) (set : DaySet) (e : ProductEntry),
    let used := DaySet.offsets set
    let counted := used.take e.entitled
    used.Pairwise (· < ·) ∧ (∀ k, k ∈ used ↔ k < 64 ∧ set.getLsbD k = true) ∧
      flexWeight s first set e = (counted.map (fun k =>
        let loss := effectiveLoss s (first + k)
        if max 1 s.sps.bank.threshold ≤ loss then loss else 0)).sum +
        (e.entitled - min used.length e.entitled) * (if first + e.span ≤ s.du.day then e.past else 1000))

/-! ### Refunds (chapter 7) -/

/-- R144 to R148: the gross, the amount and the day counts. The weight is at most N times 1,000, the product of price and weight fits 48
bits, the gross is at most the price and equals it at full weight, the amount is a whole multiple of the rounding unit
and at most the gross. The counts of used, unused-past and unused-future days are those of the kind, and add up to N. -/
def Obligations.RefundAmountsAreBounded : Prop :=
  ∀ (s : State) (r : PassRecord) (e : ProductEntry),
    let f := computeRefund s r e
    let days := if e.kind = .flex then e.entitled else e.span
    f.weight ≤ days * 1000 ∧ f.gross = r.price * f.weight / (days * 1000) ∧ f.gross ≤ r.price ∧
      (0 < days → f.weight = days * 1000 → f.gross = r.price) ∧
      (r.price ≤ 2000000 → days ≤ 64 → r.price * f.weight < 2 ^ 48) ∧
      f.amount = (if f.gross ≤ e.fee then 0 else (f.gross - e.fee) / e.unit * e.unit) ∧
      e.unit ∣ f.amount ∧ f.amount ≤ f.gross ∧ f.today = s.du.day ∧ f.price = r.price ∧ f.kind = e.kind ∧
      f.days = days ∧ f.used + f.unusedPast + f.unusedFuture = days ∧
      (let set := r.daySet.getD 0
       let u := min (DaySet.offsets set).length e.entitled
       let ended := r.firstDay + e.span ≤ s.du.day
       (e.kind = .flex → f.used = u ∧ f.unusedPast = (if ended then e.entitled - u else 0) ∧
         f.weight = min (flexWeight s r.firstDay set e) (days * 1000)) ∧
       (e.kind ≠ .flex → f.used = ((List.range e.span).filter (fun k => set.getLsbD k)).length ∧
         f.unusedPast = ((List.range e.span).filter (fun k => !set.getLsbD k && r.firstDay + k < s.du.day)).length ∧
         f.weight = min (consecutiveWeight s r.firstDay set e) (days * 1000)))

/-- R140, R149: the refund requests at their arrival. Each refusal leaves nothing behind. In MOUNTING and READY a quote waits for
its lookup, and a commit holds a posting credit, a journal credit and the pass in the active pass set; a free port of a READY
store takes the next operation at once (R67). In FAULTED and FORMATTING both are answered STORE_FAULT at once and leave nothing
behind (R74), the quote with zeros as figures (R141); that the commit carries such zeros too is the model's choice (log entry 74).
Where a credit comes back, this holds where no grant pass has a lane to grant. -/
def Obligations.RefundRequestsAreTaken : Prop :=
  ∀ (s : State) (k : SlotNo) (tag pass amount : Nat), SlotFor s k →
    let quote : Instr := .refundQuote tag pass
    let commit : Instr := .refundCommit tag pass amount
    let refused (i : Instr) (st : Status) : State := s.withHlc (s.hlc.answered i k (.status st))
    (pass = 0 → exec quote s = .next (refused quote .badField)) ∧
    (pass ≠ 0 → s.du.day = 0 → exec quote s = .next (refused quote .outOfRange)) ∧
    (pass ≠ 0 → s.du.day ≠ 0 → LookupsQueue s → exec quote s = .next ((s.withHlc
      (s.hlc.holding quote k .lookup)).withPsc (s.psc.queued (.service k) pass s.ms false)).served) ∧
    (pass ≠ 0 → s.du.day ≠ 0 → LookupsEnd s →
      exec quote s = .next (s.withHlc (s.hlc.answered quote k (.refund .storeFault RefundFigures.zero)))) ∧
    (pass = 0 ∨ 2000000 < amount → exec commit s = .next (refused commit .badField)) ∧
    (pass ≠ 0 → amount ≤ 2000000 →
      (s.du.day = 0 → exec commit s = .next (refused commit .outOfRange)) ∧
      (s.du.day ≠ 0 → s.ru.commit.isSome = true → exec commit s = .next (refused commit .busy)) ∧
      (s.du.day ≠ 0 → s.ru.commit = none →
        (isMember pass s = true → exec commit s = .next (refused commit .inUse)) ∧
        (isMember pass s = false → postingGrants s = false ∨ journalGrants s = false →
          (postingGrants s = false ∧ journalGrants s = false) ∨ NoSeatWork s →
          exec commit s = .next (refused commit .busy)) ∧
        (isMember pass s = false → postingGrants s = true → journalGrants s = true → LookupsQueue s →
          exec commit s = .next (((((s.withHlc (s.hlc.holding commit k .lookup)).withPsc
            { s.psc.queued (.service k) pass s.ms false with credits := s.psc.credits + 1 }).withJnl
            { s.jnl with credits := s.jnl.credits + 1 }).withAe
            { members := s.ae.members ++ [{ pass := pass, holder := .refund }] }).withRu
            { commit := some { slot := k, pass := pass, amount := amount, progress := .lookupQueued } }).served) ∧
        (isMember pass s = false → postingGrants s = true → journalGrants s = true → LookupsEnd s → NoSeatWork s →
          exec commit s = .next ((s.withHlc (s.hlc.answered commit k (.refund .storeFault RefundFigures.zero))).withAe
            (s.ae.without .refund)))))

/-- R139, R141, R150, R151: a quote and a commit decided at their lookup's completion. A quote answers NOT_FOUND, ALREADY_REFUNDED
with the recorded amount, NOT_REFUNDABLE, or OK with the full computation, and changes nothing of the pass. A commit with the amount
that was expected enqueues a REFUND_MARK, writes a REFUND record and answers with its stamp; with another amount it answers
QUOTE_CHANGED, and for an absent, a REFUNDED and a not refundable pass NOT_FOUND, ALREADY_REFUNDED and NOT_REFUNDABLE; each of these
refusals, with no lane waiting, gives both credits back and posts and records nothing. Either way the hold leaves the active pass set
and no commit is in flight. That an ALREADY_REFUNDED reply carries zeros beside the amount, that a commit's NOT_FOUND and
NOT_REFUNDABLE carry zeros as figures, and that the reply of an agreed commit joins the queue behind the notices of its record, is the
model's choice (log entries 60, 74 and 57). -/
def Obligations.RefundCommitIsDecided : Prop :=
  (∀ (s : State) (x : IssuedOp) (l : Lookup) (k : SlotNo) (tag pass : Nat) (p : Progress), mainOn s = true →
    s.psc.op = some x → x.op = .lookupRead l → l.requester = .service k →
    s.hlc.slots.get k = some { request := .refundQuote tag pass, progress := p } →
    let found := recordOf (forwarded s l.pass) l.pass
    ∃ t, exec .lookupComplete s = .next t ∧ OnlyChanges [.psc, .ru, .jnl, .hlc] s t ∧
      t.psc.postings = s.psc.postings ∧ t.psc.credits = s.psc.credits ∧ t.jnl.records = s.jnl.records ∧
      t.jnl.credits = s.jnl.credits ∧
      (let answers (r : Reply) : Prop := t.hlc.queue = s.hlc.queue ++ [.reply k 21 tag r]
       (found = none → answers (.refund .notFound RefundFigures.zero)) ∧
       (∀ r, found = some r →
        let e := productOf s r.product
        (∀ amount, r.status = .refunded → r.refund = some amount →
          answers (.refund .alreadyRefunded { RefundFigures.zero with amount := amount })) ∧
        (r.status ≠ .refunded →
          ((e.kind = .consecutive ∨ e.kind = .flex) ∧ e.refundable = true → answers (.refund .ok (computeRefund s r e))) ∧
          (e.kind = .unused ∨ e.kind = .season ∨ e.refundable = false →
            answers (.refund .notRefundable RefundFigures.zero)))))) ∧
  (∀ (s : State) (x : IssuedOp) (l : Lookup) (k : SlotNo) (tag pass amount : Nat) (p : Progress) (c : Commit),
    mainOn s = true → s.psc.op = some x → x.op = .lookupRead l → l.requester = .service k →
    s.hlc.slots.get k = some { request := .refundCommit tag pass amount, progress := p } → s.ru.commit = some c →
    c.slot = k → s.sm.waiting = [] →
    let found := recordOf (forwarded s l.pass) l.pass
    ∃ t, exec .lookupComplete s = .next t ∧ t.ru.commit = none ∧ t.ae = s.ae.without .refund ∧
      t.psc.credits = s.psc.credits - 1 ∧ t.jnl.credits = s.jnl.credits - 1 ∧
      OnlyChanges [.ae, .psc, .ru, .jnl, .hlc, .sps] s t ∧
      (let refused (r : Reply) : Prop := t.sps = s.sps ∧ t.psc.postings = s.psc.postings ∧
         t.jnl.records = s.jnl.records ∧ t.hlc.queue = s.hlc.queue ++ [.reply k 22 tag r]
       (found = none → refused (.refund .notFound RefundFigures.zero)) ∧
       (∀ r, found = some r →
        let e := productOf s r.product
        let f := computeRefund s r e
        let refunds := (e.kind = .consecutive ∨ e.kind = .flex) ∧ e.refundable = true
        (∀ a, r.status = .refunded → r.refund = some a →
          refused (.refund .alreadyRefunded { RefundFigures.zero with amount := a })) ∧
        (r.status ≠ .refunded → ¬ refunds → refused (.refund .notRefundable RefundFigures.zero)) ∧
        (r.status ≠ .refunded → refunds → f.amount ≠ c.amount → refused (.refund .quoteChanged f)) ∧
        (r.status ≠ .refunded → refunds → f.amount = c.amount →
          t.psc.postings = s.psc.postings ++ [.refundMark c.pass f.amount] ∧
          t.jnl.records = s.jnl.records ++ [{ stamp := (readyStamp s).nextStamp, time := s.now
                                              body := .refund c.pass f.amount f.weight s.du.day }] ∧
          t.hlc.queue.getLast? = some (.reply k 22 tag (.committed f (readyStamp s).nextStamp))))))

/-! ### Central updates and the deny list (chapter 8) -/

/-- R155, R156, R161, R163, R165, R166: the update requests and PASS_READ at their arrival. With its fields accepted an
update claims a posting credit and waits for its lookup; without a free place it is BUSY; a field out of range is
BAD_FIELD; PASS_DROP of a pass in hand is IN_USE. PASS_READ claims no credit. A free port of a READY store takes the next operation
at once (R67). In FAULTED and FORMATTING the request is answered STORE_FAULT at once and the credit is given back (R74), where no
grant pass has a lane to grant. The ranges of the fields are stated first. -/
def Obligations.UpdateRequestsAreTaken : Prop :=
  (∀ raw : RawRecord, rawAccepted raw = true ↔
    raw.passId ≠ 0 ∧ raw.product ≤ 63 ∧ raw.status ≤ 2 ∧ raw.flags < 16 ∧ raw.price ≤ 2000000 ∧ raw.ridesCount ≤ 255 ∧
      raw.totalRides ≤ 65535 ∧
      (raw.flags.testBit 1 = true → raw.lastDay ≠ 0 ∧ raw.lastSec ≤ 86399 ∧ raw.lastBank ≠ 0) ∧
      (raw.flags.testBit 3 = true ↔ raw.status = 2) ∧ (raw.flags.testBit 3 = true → raw.refund ≤ raw.price)) ∧
  (∀ m : RawMerge, mergeAccepted m = true ↔
    m.passId ≠ 0 ∧ m.dayCount ≤ 16 ∧ m.days.length = m.dayCount ∧ (∀ d ∈ m.days, d ≠ 0) ∧ m.lastFlag ≤ 1 ∧
      (m.lastFlag = 1 → m.lastDay ≠ 0 ∧ m.lastSec ≤ 86399 ∧ m.lastBank ≠ 0)) ∧
  (∀ pass st flag amount : Nat, statusAccepted pass st flag amount = true ↔
    pass ≠ 0 ∧ st ≤ 2 ∧ (st = 2 → flag = 1 ∧ amount ≤ 2000000) ∧ (st ≠ 2 → flag = 0)) ∧
  ∀ (s : State) (k : SlotNo) (i : Instr) (pass : Nat) (occupancy accepted : Bool), SlotFor s k →
    (∃ tag raw, i = .passPut tag raw ∧ pass = raw.passId ∧ occupancy = true ∧ accepted = rawAccepted raw) ∨
      (∃ tag m, i = .passMerge tag m ∧ pass = m.passId ∧ occupancy = false ∧ accepted = mergeAccepted m) ∨
      (∃ tag st flag amount, i = .passStatus tag pass st flag amount ∧ occupancy = false ∧
        accepted = statusAccepted pass st flag amount) ∨
      (∃ tag, i = .passDrop tag pass ∧ occupancy = false ∧ accepted = (pass != 0)) →
    let inHand := match i with
      | .passDrop _ _ => isMember pass s
      | _ => false
    (accepted = false → exec i s = .next (s.withHlc (s.hlc.answered i k (.status .badField)))) ∧
    (accepted = true → inHand = true → exec i s = .next (s.withHlc (s.hlc.answered i k (.status .inUse)))) ∧
    (accepted = true → inHand = false → postingGrants s = false →
      exec i s = .next (s.withHlc (s.hlc.answered i k (.status .busy)))) ∧
    (accepted = true → inHand = false → postingGrants s = true → LookupsQueue s →
      exec i s = .next ((s.withHlc (s.hlc.holding i k .lookup)).withPsc
        { s.psc.queued (.service k) pass s.ms occupancy with credits := s.psc.credits + 1 }).served) ∧
    (accepted = true → inHand = false → postingGrants s = true → LookupsEnd s → NoSeatWork s →
      exec i s = .next (s.withHlc (s.hlc.answered i k (.status .storeFault)))) ∧
    (∀ tag, let read : Instr := .passRead tag pass
      (pass = 0 → exec read s = .next (s.withHlc (s.hlc.answered read k (.status .badField)))) ∧
      (pass ≠ 0 → LookupsQueue s → exec read s = .next ((s.withHlc (s.hlc.holding read k .lookup)).withPsc
        (s.psc.queued (.service k) pass s.ms true)).served) ∧
      (pass ≠ 0 → LookupsEnd s → exec read s = .next (s.withHlc (s.hlc.answered read k (.status .storeFault)))))

/-- R89, R157, R160, R161, R163, R165 to R167: PASS_PUT, the install of an inquiry's record, PASS_MERGE, PASS_STATUS, PASS_DROP and
PASS_READ decided at their lookup's completion, with no lane waiting for a credit. The credit of an update is used by its posting or
given back. A PUT that would make a record REFUNDED with an amount that is not in whole rounding units is BAD_FIELD, unless its pass
is absent from a full bucket, or its record is locked or REFUNDED already; an install is decided in the same way, and its reply
carries the status of the answer and the install outcome. The order of the days in a MERGE posting, as listed and each at its first
place, is the model's choice (log entry 49). So is that STORE_FULL joins the queue before the reply at TABLE_FULL (log entry 58),
that a carried usage stamp is dropped in a PUT_INSERT posting and stays in a PUT_MERGE posting (log entry 70), and the rounding unit
1 of a product code above 63 (log entry 63). -/
def Obligations.UpdatesAreDecided : Prop :=
  ∀ (s : State) (x : IssuedOp) (l : Lookup) (k : SlotNo) (i : Instr) (p : Progress) (tag : Nat), mainOn s = true →
    s.psc.op = some x → x.op = .lookupRead l → l.requester = .service k → s.sm.waiting = [] →
    s.hlc.slots.get k = some { request := i, progress := p } →
    let found := recordOf (forwarded s l.pass) l.pass
    let occupied := occupancy (forwarded s l.pass)
    let bucket := (bucketOf l.pass).val
    (i = .passRead tag l.pass ∨ i = .passDrop tag l.pass ∨ (∃ raw, i = .passPut tag raw ∧ raw.passId = l.pass) ∨
      (∃ m, i = .passMerge tag m ∧ m.passId = l.pass) ∨ (∃ st flag amount, i = .passStatus tag l.pass st flag amount) ∨
      (∃ number verdict raw st, i = .inquiryAnswer tag number verdict (some raw) ∧ raw.passId = l.pass ∧
        p = .install st)) →
    ∃ t, exec .lookupComplete s = .next t ∧ t.lanes = s.lanes ∧ t.ae = s.ae ∧ t.store = s.store ∧
      (let answers (kind : Nat) (r : Reply) : Prop := t.hlc.queue = s.hlc.queue ++ [.reply k kind tag r]
       let posts (ps : List Posting) : Prop := t.psc.credits = s.psc.credits - 1 ∧ t.psc.postings = s.psc.postings ++ ps
       (i = .passRead tag l.pass → l.occupancy = true → t.psc.postings = s.psc.postings ∧
        t.psc.credits = s.psc.credits ∧ answers 27 (match found with
          | some r => .passRead r bucket occupied
          | none => .notFoundRead bucket occupied)) ∧
       (i = .passDrop tag l.pass → posts (if found.isSome then [.drop l.pass] else []) ∧
        answers 26 (.status (if found.isSome then .ok else .notFound))) ∧
       (let decides (carried : PassRecord) (kind : Nat) (inserted merged locked : PassRecord → Reply)
           (full bad : Reply) : Prop :=
          let e := productOf s carried.product
          let broken := carried.status = .refunded ∧
            (carried.refund.getD 0) % (if e.kind = .unused then 1 else e.unit) ≠ 0
          (found = none → 4 ≤ occupied → posts [] ∧ t.hlc.flags.getD EventClass.storeFull.code false = true ∧
            t.hlc.queue.getLast? = some (.reply k kind tag full)) ∧
          (found = none → occupied < 4 → broken → posts [] ∧ answers kind bad) ∧
          (found = none → occupied < 4 → ¬ broken →
            let record := insertRecord s carried
            posts [.putInsert record] ∧ record.stamp = none ∧ answers kind (inserted record)) ∧
          (∀ r, found = some r →
            let keepsDay := DaySet.offsets (r.daySet.getD 0) ≠ [] ∧ carried.firstDay ≠ r.firstDay
            (keepsDay → posts [] ∧ answers kind (locked r)) ∧
            (¬ keepsDay → broken → r.status ≠ .refunded → posts [] ∧ answers kind bad) ∧
            (¬ keepsDay → ¬ broken ∨ r.status = .refunded →
              posts [.putMerge carried] ∧ answers kind (merged (applyPutMerge r carried))))
        (∀ raw, i = .passPut tag raw → raw.passId = l.pass → l.occupancy = true →
          decides (rawToRecord raw) 23 (.put .inserted) (.put .merged) .locked (.tableFull occupied bucket)
            (.status .badField)) ∧
        (∀ number verdict raw st, i = .inquiryAnswer tag number verdict (some raw) → raw.passId = l.pass →
          l.occupancy = true → p = .install st →
          let outcome (o : Status) : Reply := .answer st (some o)
          decides (rawToRecord raw) 20 (fun _ => outcome .ok) (fun _ => outcome .ok) (fun _ => outcome .firstDayLocked)
            (outcome .tableFull) (outcome .badField))) ∧
       (∀ m, i = .passMerge tag m → m.passId = l.pass →
        let listed := m.days.eraseDups
        let last : Option Passage :=
          if m.lastFlag = 1 then some { time := { day := m.lastDay, sec := m.lastSec }, bank := m.lastBank } else none
        (found = none → posts [] ∧ answers 24 (.status .notFound)) ∧
        (∀ r, found = some r →
          let taken := listed.filter (fun d => r.daySet.isSome && r.firstDay ≤ d && d ≤ r.firstDay + 63)
          let ignored := listed.length - taken.length
          (taken = [] → last = none → posts [] ∧ answers 24 (.merged 0 ignored r)) ∧
          (taken ≠ [] ∨ last.isSome = true → posts [.merge m.passId taken last] ∧
            answers 24 (.merged taken.length ignored (applyMerge r taken last))))) ∧
       (∀ st flag amount target, i = .passStatus tag l.pass st flag amount → passStatusOf st = some target →
        (flag = 1 ↔ target = .refunded) →
        let given : Option Nat := if flag = 1 then some amount else none
        (found = none → posts [] ∧ answers 25 (.status .notFound)) ∧
        (∀ r, found = some r →
          let e := productOf s r.product
          let unit := if e.kind = .unused then 1 else e.unit
          let refused := target = .refunded ∧ (r.price < amount ∨ amount % unit ≠ 0)
          (∀ a, r.status = .refunded → r.refund = some a → posts [] ∧ answers 25 (.passStatus .refunded (some a))) ∧
          (r.status ≠ .refunded → r.status = target → posts [] ∧ answers 25 (.passStatus target none)) ∧
          (r.status ≠ .refunded → r.status ≠ target → refused → posts [] ∧ answers 25 (.status .badField)) ∧
          (r.status ≠ .refunded → r.status ≠ target → ¬ refused → posts [.status l.pass target given] ∧
            answers 25 (.passStatus target given)))))

/-- R71, R152, R158, R159, R160, R162, R164: applying a PUT_MERGE, a MERGE, a STATUS or a REFUND_MARK posting twice gives the
record that applying it once gave, and an inserted record that is found present merges with itself. A USAGE posting is not so:
applied again it counts one more ride, until the total stands at 65,535. No posting but DROP takes a used day from a record,
lowers its total rides, changes its pass ID or moves its first valid day under used days. A REFUNDED record stays REFUNDED with
its amount. -/
def Obligations.PostingsOnRecords : Prop :=
  (∀ (r c : PassRecord) (days : List Nat) (last : Option Passage) (st : PassStatus) (refund : Option Nat) (amount : Nat),
    applyPutMerge (applyPutMerge r c) c = applyPutMerge r c ∧
    ((c.refund.isSome = true → c.status = .refunded) → applyPutMerge c c = c) ∧
    applyMerge (applyMerge r days last) days last = applyMerge r days last ∧
    applyStatus (applyStatus r st refund) st refund = applyStatus r st refund ∧
    applyRefundMark (applyRefundMark r amount) amount = applyRefundMark r amount) ∧
  (∀ (r : PassRecord) (day : Nat) (time : Time) (bank : Nat) (stamp : Stamp),
    let once := applyUsage r day time bank stamp
    let twice := applyUsage once day time bank stamp
    once.totalRides = min 65535 (r.totalRides + 1) ∧ twice.totalRides = min 65535 (r.totalRides + 2) ∧
      (r.totalRides < 65534 → twice ≠ once)) ∧
  (∀ (bk : Bucket) (uncertain : Bool) (p : Posting) (r new : PassRecord) (k : Nat), r.totalRides ≤ 65535 →
    recordOf bk r.passId = some r → p.pass = some r.passId → (∀ q, p ≠ .drop q) →
    applyPosting bk uncertain p = .write k new →
    new.passId = r.passId ∧ r.totalRides ≤ new.totalRides ∧ new.daySet.isSome = r.daySet.isSome ∧
      (∀ d, DaySet.has (r.daySet.getD 0) d = true → DaySet.has (new.daySet.getD 0) d = true) ∧
      (DaySet.offsets (r.daySet.getD 0) ≠ [] → new.firstDay = r.firstDay) ∧
      (r.status = .refunded → new.status = .refunded ∧ new.refund = r.refund))

/-- R169: the three requests on the deny list. That the BAD_FIELD replies of DENY_ADD and DENY_REMOVE carry the number of entries is
read from R169 and R192 by inference (the model's choice, log entry 32). -/
def Obligations.DenyListRequests : Prop :=
  ∀ (s : State) (k : SlotNo) (tag pass : Nat), SlotFor s k →
    let add : Instr := .denyAdd tag pass
    let remove : Instr := .denyRemove tag pass
    let clear : Instr := .denyClear tag
    let n := s.lsu.deny.length
    let answer (i : Instr) (st : Status) : State := s.withHlc (s.hlc.answered i k (.denyCount st n))
    (pass = 0 → exec add s = .next (answer add .badField) ∧ exec remove s = .next (answer remove .badField)) ∧
    (pass ≠ 0 → pass ∈ s.lsu.deny → exec add s = .next (answer add .ok) ∧
      exec remove s = .next ((s.withLsu { deny := s.lsu.deny.filter (· != pass) }).withHlc
        (s.hlc.answered remove k (.denyCount .ok (s.lsu.deny.filter (· != pass)).length)))) ∧
    (pass ≠ 0 → pass ∉ s.lsu.deny → exec remove s = .next (answer remove .notFound) ∧
      (2048 ≤ n → exec add s = .next (answer add .listFull)) ∧
      (n < 2048 → ∃ t, exec add s = .next t ∧ OnlyChanges [.lsu, .hlc] s t ∧
        t.hlc = s.hlc.answered add k (.denyCount .ok (n + 1)) ∧ pass ∈ t.lsu.deny ∧
        t.lsu.deny.filter (· != pass) = s.lsu.deny ∧
        (s.lsu.deny.Pairwise (· < ·) → t.lsu.deny.Pairwise (· < ·)))) ∧
    exec clear s = .next ((s.withLsu { deny := [] }).withHlc (s.hlc.answered clear k (.denyCleared 0 n)))

/-! ### The journal and the counters (chapter 9) -/

/-- R172, R175, R176: past the last sequence the epoch advances by one, its save is taken or, without the main domain, is owed, and
the sequence starts at 1; that it is owed while RESET is held low too is the model's choice (log entry 15). In epoch 65,535 no credit
and no unreserved record is allowed there. An unreserved record joins the tail with its stamp where the records and the promised positions leave a place,
raising JOURNAL_HIGH as the 896th; otherwise it is dropped and counted and JOURNAL_FULL is raised. -/
def Obligations.RecordsTakeStampsAndPlaces : Prop :=
  (∀ s : State,
    (s.jnl.nextSeq ≤ 4294967295 → readyStamp s = s) ∧
    (4294967295 < s.jnl.nextSeq → s.sps.epoch < 65535 →
      (readyStamp s).nextStamp = { epoch := s.sps.epoch + 1, seq := 1 } ∧
      OnlyChanges [.jnl, .sps] s (readyStamp s) ∧ (readyStamp s).jnl = { s.jnl with nextSeq := 1 } ∧
      (mainOn s = false → (readyStamp s).sps = { s.sps with epoch := s.sps.epoch + 1, epochOwed := true }) ∧
      (mainOn s = true → s.sps.writing = none → s.sps.queued = [] →
        (readyStamp s).sps.writing.map (·.job) = some .epoch) ∧
      (mainOn s = true → s.sps.writing.isSome = true →
        (readyStamp s).sps.queued = s.sps.queued ++ [.epoch])) ∧
    (4294967295 < s.jnl.nextSeq → s.sps.epoch = 65535 → readyStamp s = s ∧ recordFree s = false ∧
      journalGrants s = false)) ∧
  (∀ (s : State) (time : Time) (body : JBody), s.jnl.nextSeq ≤ 4294967295 →
    let free := s.jnl.records.length + s.jnl.credits < 1024 ∧
      (s.sps.epoch < 65535 ∨ s.jnl.credits < 4294967296 - s.jnl.nextSeq)
    let t := writeFree time body s
    OnlyChanges [.jnl, .hlc] s t ∧ t.jnl.lanes = s.jnl.lanes ∧ t.jnl.day = s.jnl.day ∧
      t.jnl.credits = s.jnl.credits ∧
      (free → t.jnl.records = s.jnl.records ++ [{ stamp := s.nextStamp, time := time, body := body }] ∧
        t.jnl.nextSeq = s.jnl.nextSeq + 1 ∧ t.jnl.cumulative = s.jnl.cumulative ∧
        (s.jnl.records.length + 1 = 896 → t.hlc.flags.getD EventClass.journalHigh.code false = true) ∧
        (s.jnl.records.length + 1 ≠ 896 → t.hlc = s.hlc)) ∧
      (¬ free → t.jnl = { s.jnl with cumulative :=
          { s.jnl.cumulative with dropped := addSat s.jnl.cumulative.dropped 1 } } ∧
        t.hlc.flags.getD EventClass.journalFull.code false = true))

/-- R177, R178: JOURNAL_READ shows the records from the head, 1 to 8 of them, as many as fit in the room of one reply body,
and changes nothing. JOURNAL_RELEASE removes, from the head, every record whose stamp is at or below the given one, and
answers with the number removed and the number remaining; a removal makes a grant pass over the lanes that wait (R174). That the reply
joins the queue before a notice of that pass is the model's choice (log entry 51). -/
def Obligations.JournalIsReadAndReleased : Prop :=
  (∀ (s : State) (k : SlotNo) (tag count : Nat), SlotFor s k →
    let i : Instr := .journalRead tag count
    let upTo := if count = 0 then 1 else if 8 < count then 8 else count
    let size (rs : List JRecord) := (rs.map (fun r => r.bytes.length)).sum
    ∃ shown rest, s.jnl.records = shown ++ rest ∧ shown.length ≤ upTo ∧ size shown ≤ 236 ∧
      (∀ r rs, rest = r :: rs → shown.length = upTo ∨ 236 < size (shown ++ [r])) ∧
      exec i s = .next (s.withHlc (s.hlc.answered i k (.journal shown s.jnl.records.length)))) ∧
  (∀ (s : State) (k : SlotNo) (tag epoch seq : Nat), SlotFor s k →
    let i : Instr := .journalRelease tag epoch seq
    (epoch = 0 ∨ seq = 0 → exec i s = .next (s.withHlc (s.hlc.answered i k (.status .badField)))) ∧
    (epoch ≠ 0 → seq ≠ 0 → s.sps.epoch < epoch →
      exec i s = .next (s.withHlc (s.hlc.answered i k (.status .stale)))) ∧
    (epoch ≠ 0 → seq ≠ 0 → epoch ≤ s.sps.epoch → ∃ removed kept, s.jnl.records = removed ++ kept ∧
      (∀ r ∈ removed, r.stamp.epoch < epoch ∨ (r.stamp.epoch = epoch ∧ r.stamp.seq ≤ seq)) ∧
      (∀ r rs, kept = r :: rs → epoch < r.stamp.epoch ∨ (r.stamp.epoch = epoch ∧ seq < r.stamp.seq)) ∧
      (let u := (s.withJnl { s.jnl with records := kept }).withHlc
         (s.hlc.answered i k (.released removed.length kept.length))
       exec i s = .next (if removed = [] then u else u.granting))))

/-- R184, R185: COUNTS_GET by its scope; it clears nothing. COUNTS_CLEAR sets the counters of all six lanes and the
cumulative counters to 0, and keeps the day's. -/
def Obligations.CountsAreReadAndCleared : Prop :=
  (∀ (s : State) (k : SlotNo) (tag scope lane : Nat), SlotFor s k →
    let i : Instr := .countsGet tag scope lane
    let answer (r : Reply) := exec i s = .next (s.withHlc (s.hlc.answered i k r))
    (3 ≤ scope ∨ (scope = 0 ∧ (lane = 0 ∨ 6 < lane)) → answer (.status .badField)) ∧
    (∀ n, scope = 0 → lane = laneNumber n → answer (.laneCounts s.now (s.jnl.lanes.get n))) ∧
    (scope = 1 → answer (.dayCounts s.now s.jnl.day)) ∧
    (scope = 2 → answer (.cumulative s.now s.jnl.cumulative))) ∧
  (∀ (s : State) (k : SlotNo) (tag : Nat), SlotFor s k →
    let i : Instr := .countsClear tag
    ∃ t, exec i s = .next t ∧ OnlyChanges [.jnl, .hlc] s t ∧ t.hlc = s.hlc.answered i k (.status .ok) ∧
      (∀ n, t.jnl.lanes.get n = LaneCounters.zero) ∧
      t.jnl = { s.jnl with lanes := t.jnl.lanes, cumulative := Cumulative.zero })

/-! ### The host link (chapter 10) -/

/-- R193, R194: raising a class sets its flag. A notice is due when its level is not 7 and lies below the floor: while the
link runs it joins the waiting notice of its class or the tail of the queue; while it is stopped the owed mark is
set. That the head of the queue counts as begun, so that no raise joins it, is the model's choice (log entry 13). -/
def Obligations.RaisingAClass : Prop :=
  ∀ (s : State) (cls : EventClass) (lanes : LaneSet),
    let t := raiseBy cls lanes s
    let due := s.hlc.levels.getD cls.code 7 ≠ 7 ∧ s.hlc.levels.getD cls.code 7 < s.hlc.floor
    let flagged := { s.hlc with flags := s.hlc.flags.setIfInBounds cls.code true }
    OnlyChanges [.hlc] s t ∧ t.hlc.flags.getD cls.code false = true ∧
    (∀ other, other ≠ cls → t.hlc.flags.getD other.code false = s.hlc.flags.getD other.code false) ∧
    (¬ due → t.hlc = flagged) ∧
    (due → s.hlc.running = false →
      t.hlc = { flagged with owed := s.hlc.owed.setIfInBounds cls.code true }) ∧
    (due → s.hlc.running = true → (∀ f ∈ s.hlc.queue.tail, ∀ c n ls, f ≠ .event cls c n ls) →
      t.hlc = { flagged with queue := s.hlc.queue ++ [.event cls s.now 1 lanes] }) ∧
    (∀ head before c n ls after, due → s.hlc.running = true →
      s.hlc.queue = head :: (before ++ .event cls c n ls :: after) →
      (∀ f ∈ before, ∀ c n ls, f ≠ .event cls c n ls) →
      t.hlc = { flagged with
        queue := head :: (before ++ .event cls c (min 255 (n + 1)) (ls ||| lanes) :: after) })

/-- R187, R188: the cases of a link error, each with the receiver after it, one count and LINK_ERROR, by the bytes that arrive: a
frame whose check differs, a frame broken off by an idle line, a body length above 240, a byte of a frame without its stop bit, and
the end of a run of stray bytes. A byte without its stop bit in HUNT is a stray byte, and in SKIP counts nothing. The end of
SKIP. -/
def Obligations.LinkErrorsAreCounted : Prop :=
  ∀ s : State, mainOn s = true → s.hlc.running = true →
    let counts (i : Instr) (after : Receiver) : Prop := ∃ t, exec i s = .next t ∧ OnlyChanges [.hlc] s t ∧
      t.hlc.errors = min 4294967295 (s.hlc.errors + 1) ∧ t.hlc.receiver = after ∧ t.hlc.slots = s.hlc.slots ∧
      t.hlc.flags.getD EventClass.linkError.code false = true
    (s.hlc.receiver = .hunt →
      (∀ (kind tag check : Nat) (body : List Byte), kind < 256 → tag < 256 → check < 65536 → body.length ≤ 240 →
        let checked := leBytes 2 body.length ++ leBytes 1 kind ++ leBytes 1 tag ++ body
        check ≠ crc checked → counts (.frameBadCheck (195 :: (checked ++ leBytes 2 check))) .hunt) ∧
      (∀ (kind tag m : Nat) (body : List Byte), body.length ≤ 240 → 0 < m → m < body.length + 7 →
        counts (.frameIdleGap ((frameBytes kind tag body).take m)) .hunt ∧
        counts (.stopBitMissing ((frameBytes kind tag body).take m)) .skip) ∧
      (∀ length : Nat, 240 < length → length < 65536 → counts (.bodyLengthOver (195 :: leBytes 2 length)) .skip) ∧
      counts (.strayRunEnd true) (.frame []) ∧ counts (.strayRunEnd false) .hunt ∧
      exec (.stopBitMissing []) s = .next s) ∧
    (∀ parts, s.hlc.receiver = .frame parts →
      counts (.frameIdleGap []) .hunt ∧ counts (.stopBitMissing []) .skip) ∧
    (s.hlc.receiver = .skip → (∀ bytes, exec (.stopBitMissing bytes) s = .next s) ∧
      exec .skipIdleEnd s = .next (s.withHlc { s.hlc with receiver := .hunt }))

/-- R187, R31, R210, 12.2: the receiver byte by byte. The bytes of a frame, from its start byte to its check, bring the receiver from
HUNT through FRAME to the complete frame with its kind, tag and body and a good check; a frame of a front end is discarded exactly
where its kind and body length are not in the front-end table. A body length above 240 puts it in SKIP, which discards every byte;
a byte other than the start byte in HUNT is a stray byte. -/
def Obligations.FramesAreReceived : Prop :=
  (∀ (kind tag : Nat) (body : List Byte), kind < 256 → tag < 256 → body.length ≤ 240 →
    let bytes := frameBytes kind tag body
    bytes.length = body.length + 7 ∧ bytes.head? = some 195 ∧
      receive .hunt bytes = (.hunt, some (.complete kind tag body true)) ∧
      receive (.frame []) bytes.tail = (.hunt, some (.complete kind tag body true)) ∧
      (∀ m, 0 < m → m < bytes.length → receive .hunt (bytes.take m) = (.frame (bytes.take m).tail, none)) ∧
      (∀ n : LaneNo, discardedFrame n bytes =
        (if (kind, body.length) ∈ [(1, 8), (2, 32), (3, 0), (4, 0), (5, 0)] then none else some true))) ∧
  (∀ (n : LaneNo) (m : Nat) (body : List Byte), m < 256 ^ 8 →
    decodeFrontEnd n 1 (leBytes 8 m) = some (.fieldEnter n m) ∧
      (body.length = 32 → decodeFrontEnd n 2 body = some (.image n body)) ∧
      decodeFrontEnd n 3 [] = some (.readFail n) ∧ decodeFrontEnd n 4 [] = some (.fieldLeave n) ∧
      decodeFrontEnd n 5 [] = some (.feStatus n)) ∧
  (∀ length : Nat, 240 < length → length < 65536 → receive .hunt (195 :: leBytes 2 length) = (.skip, some .tooLong)) ∧
  (∀ bytes : List Byte, receive .skip bytes = (.skip, none)) ∧
  (∀ b : Byte, b ≠ 195 → receiveByte .hunt b = (.hunt, some .stray))

/-- R189, R190, R191, R210: dispatch refuses an unknown kind and a wrong length with an immediate reply; the length of a BANK_CONFIG
is 2 and the widths of the settings that its presence mark has, 2 for the timer period, the passback lockout, the inquiry timeout
and T, and 1 for each other. Every request that finds all four slots occupied is answered BUSY at once and has no other effect. With
four immediate replies in the queue, the next is not queued: the immediate replies of the queue and the slots stay as they are, one
link error is counted and LINK_ERROR is raised. That an immediate reply which has begun to leave counts among the four is the
model's choice (log entry 71). -/
def Obligations.RequestsAreTurnedAway : Prop :=
  (∀ (s : State) (kind tag : Nat) (body : List Byte), hostHears s = true →
    let i : Instr := .dispatchRefusal kind tag body
    let few := (s.hlc.queue.filter OutFrame.isImmediate).length < 4
    let at_ (k : Nat) (st : Status) : State := s.withHlc { s.hlc with
      receiver := .hunt, queue := s.hlc.queue ++ [.immediate k tag st] }
    let n := body.length
    let fixed : List (Nat × Nat) := [(1, 0), (2, 0), (3, 0), (5, 0), (7, 0), (8, 17), (9, 1), (10, 2), (11, 6), (12, 10),
      (13, 1), (14, 0), (15, 4), (16, 3), (17, 0), (18, 0), (19, 1), (21, 4), (22, 8), (23, 48), (25, 10), (26, 4),
      (27, 4), (28, 4), (29, 4), (30, 0), (31, 1), (32, 6), (33, 2), (34, 0)]
    let mark := (body.getD 0 0).toNat + 256 * (body.getD 1 0).toNat
    let marked := ((List.range 16).map (fun i =>
      if mark.testBit i then (if i ∈ [4, 10, 13, 14] then 2 else 1) else 0)).sum
    let unknown := kind = 0 ∨ 34 < kind
    let rightLength := (kind, n) ∈ fixed ∨ (kind = 4 ∧ n % 2 = 1 ∧ n ≤ 29) ∨ (kind = 6 ∧ 2 ≤ n ∧ n = 2 + marked) ∨
      (kind = 20 ∧ (n = 2 ∨ n = 50)) ∨ (kind = 24 ∧ 13 ≤ n ∧ n ≤ 45 ∧ n % 2 = 1)
    let wrongLength := ¬ unknown ∧ ¬ rightLength
    let noSlot := freeSlot s = none ∧ rightLength
    (unknown → few → exec i s = .next (at_ 255 .unknownKind)) ∧
    (wrongLength → few → exec i s = .next (at_ (kind + 128) .badLength)) ∧
    (noSlot → few → exec i s = .next (at_ (kind + 128) .busy)) ∧
    (unknown ∨ wrongLength ∨ noSlot → ¬ few → ∃ t, exec i s = .next t ∧ OnlyChanges [.hlc] s t ∧
      t.hlc.queue.filter OutFrame.isImmediate = s.hlc.queue.filter OutFrame.isImmediate ∧
      t.hlc.slots = s.hlc.slots ∧ t.hlc.receiver = .hunt ∧ t.hlc.errors = min 4294967295 (s.hlc.errors + 1) ∧
      t.hlc.flags.getD EventClass.linkError.code false = true)) ∧
  (∀ (s : State) (i : Instr), isRequest i = true → hostHears s = true → freeSlot s = none →
    let standing := s.hlc.queue.filter OutFrame.isImmediate
    (standing.length < 4 → exec i s = .next (s.withHlc { s.hlc with
      receiver := .hunt
      queue := s.hlc.queue ++ [.immediate ((requestKindTag i).1 + 128) (requestKindTag i).2 .busy] })) ∧
    (4 ≤ standing.length → ∃ t, exec i s = .next t ∧ OnlyChanges [.hlc] s t ∧
      t.hlc.queue.filter OutFrame.isImmediate = standing ∧ t.hlc.slots = s.hlc.slots ∧ t.hlc.receiver = .hunt ∧
      t.hlc.errors = min 4294967295 (s.hlc.errors + 1) ∧
      t.hlc.flags.getD EventClass.linkError.code false = true))

/-- R190, R191, R199, R205, R28, R73, R114, R136, R200: the frame at the head of the outgoing queue has left. A reply frees its slot; the
reply to RESTART brings a restart with cause MESSAGE. The work in hand is settled first as at a RESET held low (WorkSettled): passages
completed with POWER_CUT, credits, the uncertain mark and the figures of the window. The restart itself is that of the statement on
restarts (RestartedBy), with the SUPPLY record of cause MESSAGE and the retained counters kept. It rests on the model's choices that
these two predicates name (log entries 31, 52, 53 and 67). -/
def Obligations.FramesLeaveTheQueue : Prop :=
  ∀ (s : State) (head : OutFrame) (rest : List OutFrame), mainOn s = true → s.hlc.running = true →
    s.hlc.queue = head :: rest →
    ((∀ k kind tag r, head ≠ .reply k kind tag r) →
      exec .frameSent s = .next (s.withHlc { s.hlc with queue := rest })) ∧
    (∀ k kind tag r i p, head = .reply k kind tag r → s.hlc.slots.get k = some { request := i, progress := p } →
      (∀ t, i ≠ .restart t) →
      exec .frameSent s = .next (s.withHlc { s.hlc with queue := rest, slots := s.hlc.slots.set k none })) ∧
    (∀ k kind tag r t' p, head = .reply k kind tag r →
      s.hlc.slots.get k = some { request := .restart t', progress := p } →
      ∃ settled t, exec .frameSent s = .next t ∧
        WorkSettled false (s.withHlc { s.hlc with queue := rest, slots := s.hlc.slots.set k none }) settled ∧
        RestartedBy .message settled t)

/-- R1, R32, R40, R57, R80, R96, R118, R138, R168, R171, R172, R197 to R199: IDENT carries the straps as sampled with what they gave, and the
cause of the last restart; STATUS carries the flags and every field of every summary as it stands, its own slot among those listed, and
clears nothing; RESTART is answered OK and restarts nothing before its reply has left. That a frame which has begun to leave counts
among the frames in the queue, and that the journal summary shows sequence 1 beside the current epoch once the last sequence has been
given, is the model's choice (log entries 71 and 36). -/
def Obligations.PartIsIdentified : Prop :=
  let rated (s : State) (rate : Nat) : Prop :=
    (s.sps.straps.rate = 0 → rate = 115200) ∧ (s.sps.straps.rate = 1 → rate = 230400) ∧
      (s.sps.straps.rate = 2 → rate = 460800) ∧ (s.sps.straps.rate = 3 → rate = 921600)
  (∀ (s : State) (k : SlotNo) (tag : Nat), SlotFor s k →
    let i : Instr := .ident tag
    let fitted := if 1 ≤ s.sps.straps.lanes ∧ s.sps.straps.lanes ≤ 6 then s.sps.straps.lanes else 6
    ∃ rate, exec i s = .next (s.withHlc (s.hlc.answered i k (.ident s.sps.straps fitted rate s.sps.cause))) ∧
      rated s rate ∧ (Reply.ident s.sps.straps fitted rate s.sps.cause).fields.take 3 = leBytes 2 1606 ++ [66]) ∧
  (∀ (s : State) (k : SlotNo) (tag : Nat), SlotFor s k →
    (∃ r, exec (.status tag) s = .next (s.withHlc (s.hlc.answered (.status tag) k (.report r))) ∧
      r.flags = s.hlc.flags ∧
      (∀ n, let l := s.lane n
        r.lanes.get n =
          { state := l.state
            lamp := (match l.state with
              | .off | .idle => .off
              | .reading | .checking | .inquiring | .waiting => .amber
              | .granted | .passing => .green
              | .denied | .disabled | .fault => .red)
            beamStuck := l.beamStuck, readerSilent := l.readerSilent, disablePending := l.disablePending
            lastOffsets := l.lastOffsets }) ∧
      r.productsUsed = s.sps.products.toList.countP (fun e => e.kind != .unused) ∧
      r.members = s.ae.members.length ∧
      (∀ n, r.lanesHolding.get n = true ↔ ∃ m ∈ s.ae.members, ∃ p, m.holder = .lane n p) ∧
      r.store = { state := s.psc.state, mode := s.psc.mode, lookups := s.psc.lookups.length
                  postings := s.psc.postings.length, credits := s.psc.credits, uncertain := s.psc.uncertain
                  formatNo := s.psc.formatNo } ∧
      r.inquiry = { link := s.iqu.link, pending := s.iqu.pending.map (fun p => (p.number, p.lane))
                    waiting := s.iqu.waiting.length, lastEnded := s.iqu.lastEnded.map (·.1)
                    provisional := s.iqu.provisional.length } ∧
      r.seats = { source := s.sps.bank.source, window := s.sm.window.map (fun w => (w.number, w.seats, w.granted))
                  waiting := s.sm.waiting.map (·.lane), halt := s.sm.halt, lastPulse := s.sm.lastPulse } ∧
      (let scheduled := s.sps.schedule.closeSec - s.sps.schedule.openSec
       r.day = { clock := s.now, schedule := s.sps.schedule, state := s.du.sched, clockUnset := s.du.day == 0
                 hold := s.du.hold, halt := s.du.halt
                 stopped := s.du.halt.isSome || s.du.hold.isSome || s.du.backup.isSome
                 lost := s.du.lost, scheduled := scheduled, working := s.du.lost * 1000 / scheduled
                 logEntries := s.du.log.length, unsaved := s.du.log.countP (·.unsaved) }) ∧
      r.commit = s.ru.commit.map (·.pass) ∧ r.denyEntries = s.lsu.deny.length ∧
      r.journal = { records := s.jnl.records.length, credits := s.jnl.credits
                    head := s.jnl.records.head?.map (·.stamp), newest := s.jnl.records.getLast?.map (·.stamp)
                    epoch := s.sps.epoch, nextSeq := r.journal.nextSeq } ∧
      (s.jnl.nextSeq ≤ 4294967295 → r.journal.nextSeq = s.jnl.nextSeq) ∧
      (4294967295 < s.jnl.nextSeq → s.sps.epoch < 65535 → r.journal.nextSeq = 1) ∧
      r.link.slots.get k = (2, tag) ∧
      (∀ j, j ≠ k → r.link.slots.get j = (match s.hlc.slots.get j with
        | none => (0, 0)
        | some x => requestKindTag x.request)) ∧
      r.link.frames = s.hlc.queue.length ∧ r.link.errors = s.hlc.errors ∧ r.link.floor = s.hlc.floor ∧
      rated s r.link.rate ∧
      r.supply = { supply := s.sps.supply, cause := s.sps.cause, straps := s.sps.straps }) ∧
    exec (.restart tag) s = .next (s.withHlc (s.hlc.answered (.restart tag) k (.status .ok))))

/-- R195, R196: FLAGS_TAKE carries the flags as they stand, and every flag is clear after it; levels, owed marks and queued
notices stay. NOTICE_LEVELS with a class that names none of the fourteen is refused and changes nothing; otherwise the floor
is set, at most 8, and a listed class takes its later level, at most 7. -/
def Obligations.FlagsAndLevelsByRequest : Prop :=
  (∀ (s : State) (k : SlotNo) (tag : Nat), SlotFor s k →
    let i : Instr := .flagsTake tag
    ∃ t, exec i s = .next t ∧ (∀ c : EventClass, t.hlc.flags.getD c.code false = false) ∧
      t = s.withHlc { s.hlc.answered i k (.flags s.hlc.flags) with flags := t.hlc.flags }) ∧
  (∀ (s : State) (k : SlotNo) (tag floor : Nat) (pairs : List (Nat × Nat)), SlotFor s k →
    let i : Instr := .noticeLevels tag floor pairs
    ((∃ p ∈ pairs, 14 ≤ p.1) → exec i s = .next (s.withHlc (s.hlc.answered i k (.status .badField)))) ∧
    ((∀ p ∈ pairs, p.1 < 14) → ∃ levels : Vector Nat 14,
      exec i s = .next (s.withHlc { s.hlc.answered i k (.levels (min 8 floor) levels) with
        floor := min 8 floor, levels := levels }) ∧
      (∀ c : Fin 14, (∀ p ∈ pairs, p.1 ≠ c.val) → levels[c] = s.hlc.levels[c]) ∧
      (∀ (c : Fin 14) (before after : List (Nat × Nat)) (level : Nat), pairs = before ++ (c.val, level) :: after →
        (∀ p ∈ after, p.1 ≠ c.val) → levels[c] = min 7 level)))

/-! ### Settings, supply and restarts (chapters 2 and 11) -/

/-- R33, R34: PRODUCT_PUT validates every field of an entry before it changes anything. The kind UNUSED empties the entry;
another valid entry replaces the old one whole; anything else is BAD_FIELD. PRODUCT_GET answers with the entry. -/
def Obligations.ProductEntriesArePutAndRead : Prop :=
  (∀ (s : State) (k : SlotNo) (tag code : Nat) (e : RawProduct), SlotFor s k →
    let i : Instr := .productPut tag code e
    let put (x : ProductEntry) : State :=
      (s.withSps { s.sps with products := s.sps.products.setIfInBounds code x }).withHlc
        (s.hlc.answered i k (.product x))
    let spanOk := (e.kind = 1 ∧ 1 ≤ e.span ∧ e.span ≤ 30 ∧ e.entitled = 0) ∨
      (e.kind = 2 ∧ 1 ≤ e.span ∧ e.span ≤ 64 ∧ 1 ≤ e.entitled ∧ e.entitled ≤ e.span) ∨
      (e.kind = 3 ∧ 1 ≤ e.span ∧ e.span ≤ 400 ∧ e.entitled = 0)
    let valid := spanOk ∧ e.rideLimit ≤ 255 ∧ e.refundable ≤ 1 ∧ (e.kind = 3 → e.refundable = 0) ∧ e.past ≤ 1000 ∧
      e.fee ≤ 100000 ∧ e.unit ∈ [1, 2, 5, 10, 20, 50, 100] ∧ e.policy ≤ 1
    (63 < code ∨ (e.kind ≠ 0 ∧ ¬ valid) → exec i s = .next (s.withHlc (s.hlc.answered i k (.status .badField)))) ∧
    (code ≤ 63 → e.kind = 0 → exec i s = .next (put ProductEntry.unused)) ∧
    (code ≤ 63 → valid → ∃ x, exec i s = .next (put x) ∧ x.kind.code = e.kind ∧ x.span = e.span ∧
      x.entitled = e.entitled ∧ x.zoneMask = e.zoneMask ∧ x.rideLimit = e.rideLimit ∧
      boolCode x.refundable = e.refundable ∧ x.past = e.past ∧ x.fee = e.fee ∧ x.unit = e.unit ∧
      x.policy.code = e.policy)) ∧
  (∀ (s : State) (k : SlotNo) (tag code : Nat), SlotFor s k →
    let i : Instr := .productGet tag code
    (63 < code → exec i s = .next (s.withHlc (s.hlc.answered i k (.status .badField)))) ∧
    (∀ h : code < 64, exec i s = .next (s.withHlc (s.hlc.answered i k (.product s.sps.products[code])))))

/-- R209: BANK_CONFIG is validated whole; a marked setting out of a clamped range takes the nearer end, an unmarked one
stays, and the reply carries every setting. A changed sensor filter applies from the reply onward: a fall of ROTn or CHAIR still being
measured is measured again, one already accepted is not (R4, R97, R115). A change to TIMER ends a declared HALT with its STOP record
(R112); a change to PULSE arms halt detection in OPEN and LAST_CALL (R110). With the window source as it was, nothing else changes;
that this takes in a marked source with its old value, that the millisecond of the reply is a sample, and that the reply joins the
queue behind the notices of a STOP record, is the model's choice (log entries 20, 53 and 57). -/
def Obligations.BankSettingsAreSet : Prop :=
  ∀ (s : State) (k : SlotNo) (tag : Nat) (p : BankPatch), SlotFor s k →
    let i : Instr := .bankConfig tag p
    let old := s.sps.bank
    let within (o : Option Nat) (low high : Nat) : Prop := ∀ n, o = some n → low ≤ n ∧ n ≤ high
    let valid := within p.bankId 1 255 ∧ within p.zone 0 15 ∧ within p.seatCount 1 8 ∧ within p.source 0 1 ∧
      within p.filter 0 3 ∧ within p.threshold 0 1000 ∧ within p.lossStops 0 1
    let clamped (o : Option Nat) (before low high : Nat) : Nat := (o.map (fun n => max low (min high n))).getD before
    (¬ valid → exec i s = .next (s.withHlc (s.hlc.answered i k (.status .badField)))) ∧
    (valid → ∃ (b : BankSettings) (t : State), exec i s = .next t ∧
      let since := if p.filter.getD old.filter.code = old.filter.code then s.sps.filterSince else s.ms
      t.sps.bank = b ∧ t.sps.filterSince = since ∧
      (s.sm.halt = none ∨ s.jnl.nextSeq ≤ 4294967295 → t.sps = { s.sps with bank := b, filterSince := since }) ∧
      t.hlc.queue.getLast? = some (.reply k 6 tag (.bank b)) ∧
      b.bankId = p.bankId.getD old.bankId ∧ b.zone = p.zone.getD old.zone ∧
      b.seatCount = p.seatCount.getD old.seatCount ∧ b.source.code = p.source.getD old.source.code ∧
      b.timerPeriod = clamped p.timerPeriod old.timerPeriod 20 300 ∧
      b.haltDetect = clamped p.haltDetect old.haltDetect 5 120 ∧
      b.passThrough = clamped p.passThrough old.passThrough 3 20 ∧
      b.passingLimit = clamped p.passingLimit old.passingLimit 5 30 ∧
      b.denyDisplay = clamped p.denyDisplay old.denyDisplay 5 50 ∧
      b.waitLimit = clamped p.waitLimit old.waitLimit 10 120 ∧ b.lockout = clamped p.lockout old.lockout 0 900 ∧
      b.beamStuck = clamped p.beamStuck old.beamStuck 5 60 ∧ b.filter.code = p.filter.getD old.filter.code ∧
      b.inquiryTimeout = clamped p.inquiryTimeout old.inquiryTimeout 500 5000 ∧
      b.threshold = p.threshold.getD old.threshold ∧ boolCode b.lossStops = p.lossStops.getD (boolCode old.lossStops) ∧
      (b.filter = old.filter → t.lanes = s.lanes ∧ t.sm.chair = s.sm.chair) ∧
      (b.filter ≠ old.filter →
        let again (x : PulseInput) : PulseInput :=
          { x with low := if x.low ≤ s.ms then x.low else max x.fall s.ms + b.filter.period }
        t.sm.chair = again s.sm.chair ∧
          ∀ n, t.lane n = { s.lane n with rotation := again (s.lane n).rotation }) ∧
      (b.source = old.source → OnlyChanges [.sps, .lanes, .sm, .hlc] s t ∧ t.sm = { s.sm with chair := t.sm.chair }) ∧
      (old.source = .pulse → b.source = .timer → s.sm.halt = none → OnlyChanges [.sps, .lanes, .sm, .hlc] s t ∧
        t.sm = { s.sm with windowTimer := some (s.ms + b.timerPeriod * 100), reference := none, haltTimer := none
                           chair := t.sm.chair }) ∧
      (∀ start, old.source = .pulse → b.source = .timer → s.sm.halt = some start → s.du.halt = some start →
        t.sm.halt = none ∧ t.du.halt = none ∧ (recordFree s = true → s.jnl.nextSeq ≤ 4294967295 →
          t.jnl.records = s.jnl.records ++
            [{ stamp := s.nextStamp, time := s.now, body := .stop start s.now .halt }])) ∧
      (old.source = .timer → b.source = .pulse → OnlyChanges [.sps, .lanes, .sm, .hlc] s t ∧
        let arms := s.du.day ≠ 0 ∧ (s.du.sched = .isOpen ∨ s.du.sched = .lastCall) ∧ s.sm.halt = none
        t.sm = { s.sm with
          windowTimer := none, chair := t.sm.chair
          reference := if arms then some s.now else s.sm.reference
          haltTimer := if arms then some (s.ms + b.haltDetect * 1000) else s.sm.haltTimer }))

/-- R207, R208: SETTINGS_SAVE begins a full save of the working copy into the copy that is not the newer valid image, with
the next save count, and holds its slot. A write that reads back valid stands in its copy and is answered; the first bad
read repeats it; the second ends it as failed. That a full save which only waits counts as in progress, so that a second
SETTINGS_SAVE is BUSY, is the model's choice (log entry 64). -/
def Obligations.SettingsAreSaved : Prop :=
  (∀ (s : State) (k : SlotNo) (tag : Nat), SlotFor s k →
    let i : Instr := .settingsSave tag
    let content : SettingsContent :=
      { bank := s.sps.bank, schedule := s.sps.schedule, products := s.sps.products, epoch := s.sps.epoch }
    let write (copy : Copy) (count : Nat) : SettingsWrite :=
      { job := .full k content, copy := copy, repeated := false
        image := { layout := 1, saveCount := count, content := content, checkOk := true } }
    (fullSaving s = true → exec i s = .next (s.withHlc (s.hlc.answered i k (.status .busy)))) ∧
    (s.sps.writing = none → s.sps.queued = [] → ∃ (copy : Copy) (count : Nat),
      exec i s = .next ((s.withHlc (s.hlc.holding i k .saving)).withSps
        { s.sps with writing := some (write copy count) }) ∧
      (s.sps.newer = none → count = 1) ∧
      (∀ c, s.sps.newer = some c → copy ≠ c ∧
        ((s.sps.copy c).saveCount < 4294967295 → count = (s.sps.copy c).saveCount + 1)))) ∧
  (∀ (s : State) (w : SettingsWrite), mainOn s = true → s.sps.writing = some w → s.sps.queued = [] →
    let stored : SpsState := { s.sps with writing := none }.setCopy w.copy w.image
    let spoilt : SpsState := s.sps.setCopy w.copy { w.image with checkOk := false }
    (w.job = .epoch → exec (.settingsWriteDone true) s = .next (s.withSps stored)) ∧
    (∀ k c i p, w.job = .full k c → s.hlc.slots.get k = some { request := i, progress := p } →
      ∃ t, exec (.settingsWriteDone true) s = .next t ∧ OnlyChanges [.sps, .hlc] s t ∧ t.sps = stored ∧
        t.hlc.queue = s.hlc.queue ++
          [.reply k (requestKindTag i).1 (requestKindTag i).2 (.saved w.image.saveCount)]) ∧
    (w.repeated = false → exec (.settingsWriteDone false) s = .next (s.withSps { spoilt with
      writing := some { w with repeated := true } })) ∧
    (∀ k c i p, w.repeated = true → w.job = .full k c →
      s.hlc.slots.get k = some { request := i, progress := p } →
      ∃ t, exec (.settingsWriteDone false) s = .next t ∧ OnlyChanges [.sps, .hlc] s t ∧
        t.sps = { spoilt with writing := none } ∧ t.hlc.queue = s.hlc.queue ++
          [.reply k (requestKindTag i).1 (requestKindTag i).2 (.status .storeFault)]) ∧
    (w.repeated = true → w.job = .epoch → ∃ t, exec (.settingsWriteDone false) s = .next t ∧
      OnlyChanges [.sps, .hlc] s t ∧ t.sps = { spoilt with writing := none } ∧
      t.hlc.flags.getD EventClass.settingsLost.code false = true))

/-- R203 to R205, R21, R28, R73, R114, R116, R136, R201: a supply loss and a RESET held low settle the work in hand, as the predicate
on settled work says (WorkSettled): passages completed with POWER_CUT, dropped grants, credits, the uncertain mark, the figures of the
window, owed notices, and at the loss the backup stop, the end of a HALT and the SUPPLY record. That the records of the passages come
before these, where R203 leaves the order open, is the model's choice (log entry 26). A supply loss while RESET is held changes the
supply state, sets the backup stop and writes the SUPPLY record, or drops and counts it, and settles nothing a second time. That
RETAINED_SUPPLY_LOSS sets its flag alone, every retained item keeping the value that the cold start replaces, is the model's choice
(log entry 42). -/
def Obligations.SupplyLossStopsTheMainDomain : Prop :=
  (∀ (s : State) (i : Instr) (lost : Bool), mainOn s = true →
    (i = .supplyLoss ∧ lost = true) ∨ (i = .resetAssert ∧ lost = false) → ∃ t, exec i s = .next t ∧ WorkSettled lost s t) ∧
  (∀ s : State, s.sps.supply = .main → s.sps.resetHeld = true → s.sps.retainedLost = false →
    ∃ t, exec .supplyLoss s = .next t ∧ OnlyChanges [.du, .sps, .jnl, .hlc] s t ∧
      t.du = { s.du with backup := if s.sps.bank.lossStops then some s.now else s.du.backup } ∧
      t.sps.supply = .backup ∧ t.sps.resetHeld = false ∧ t.jnl.credits = s.jnl.credits ∧ t.jnl.lanes = s.jnl.lanes ∧
      t.jnl.day = s.jnl.day ∧ t.hlc.running = s.hlc.running ∧ (s.hlc.running = false → t.hlc.queue = s.hlc.queue) ∧
      (s.jnl.nextSeq ≤ 4294967295 → t.sps = { s.sps with supply := .backup, resetHeld := false } ∧
        (recordFree s = true → t.jnl = { s.jnl with
          nextSeq := s.jnl.nextSeq + 1
          records := s.jnl.records ++ [{ stamp := s.nextStamp, time := s.now, body := .supply .backupEntered }] })) ∧
      (recordFree s = false → t.jnl.records = s.jnl.records ∧ t.jnl.nextSeq = s.jnl.nextSeq ∧
        t.jnl.cumulative.dropped = addSat s.jnl.cumulative.dropped 1 ∧
        t.hlc.flags.getD EventClass.journalFull.code false = true)) ∧
  (∀ s : State, s.sps.supply = .backup →
    exec .retainedSupplyLoss s = .next (s.withSps { s.sps with retainedLost := true }))

/-- R205, R200, R4, R97, R66, R99, R110, R117, R128, R136: a restart at the return of the supply and at the release of RESET, as the
predicate on a restart says (RestartedBy): the cause, the straps, the main domain started again, the link with RESTARTED first and the
owed notices behind it, the STOP records and the SUPPLY record, the retained domain kept, and the inputs as they show. That the beam
inputs show the level of the last command (log entry 31) and ROTn and CHAIR the pulses commanded so far (log entry 53), that the link
starts in the event that issues the header read (log entry 67), and that the STOP record of the halt comes before that of the supply
stop (log entry 52), is the model's choice. -/
def Obligations.RestartKeepsTheRetainedDomain : Prop :=
  ∀ (s : State) (i : Instr) (cause : RestartCause), s.sps.retainedLost = false →
    (i = .powerReturn ∧ cause = .powerReturn ∧ s.sps.supply = .backup) ∨
      (i = .resetRelease ∧ cause = .pin ∧ s.sps.supply = .main ∧ s.sps.resetHeld = true) →
    ∃ t, exec i s = .next t ∧ RestartedBy cause s t

/-- R206, R137: a cold start. With a newer valid image whose epoch is below 65,535 and whose epoch save succeeds, the working
copy takes its settings and the epoch that comes next; otherwise the defaults and epoch 1 apply and SETTINGS_LOST is set.
Every retained item takes its cold-start value, and the first record is a SUPPLY record with cause COLD. That the queue holds the
RESTARTED notice alone, and that the outcomes of the saves are operands, is the model's choice (log entries 18 and 41). -/
def Obligations.ColdStartLoadsTheSettings : Prop :=
  ∀ (s : State) (epochSaved defaultSaved : Bool), s.sps.retainedLost = true →
    ∃ t, exec (.coldStart epochSaved defaultSaved) s = .next t ∧ mainOn t = true ∧ t.sps.cause = .cold ∧
      t.sps.straps = s.pins.straps ∧ t.now = { day := 0, sec := 0 } ∧ t.du.sched = .beforeOpen ∧ t.du.hold = none ∧
      t.du.halt = none ∧ t.du.backup = none ∧ t.du.lost = 0 ∧ t.du.spans = [] ∧ t.du.log = [] ∧ t.lsu.deny = [] ∧
      t.iqu.provisional = [] ∧ t.psc.postings = [] ∧ t.psc.uncertain = false ∧ t.ae.members = [] ∧
      t.psc.op = some { op := .mountHeader true, issued := s.ms } ∧ t.hlc.floor = 4 ∧ t.hlc.errors = 0 ∧
      t.jnl.records = [{ stamp := { epoch := t.sps.epoch, seq := 1 }, time := { day := 0, sec := 0 }
                         body := .supply (.running .cold) }] ∧
      t.jnl.nextSeq = 2 ∧ (∀ n, t.jnl.lanes.get n = LaneCounters.zero) ∧ t.jnl.cumulative = Cumulative.zero ∧
      t.hlc.flags.getD EventClass.clockUnset.code false = true ∧
      t.hlc.queue = [.restarted .cold t.sps.epoch t.hlc.flags] ∧ t.store = s.store ∧
      (∀ c, s.sps.newer = some c → (s.sps.copy c).content.epoch < 65535 → epochSaved = true →
        let image := (s.sps.copy c).content
        t.sps.epoch = image.epoch + 1 ∧ t.sps.bank = image.bank ∧ t.sps.schedule = image.schedule ∧
          t.sps.products = image.products ∧ t.hlc.flags.getD EventClass.settingsLost.code false = false ∧
          t.sps.copy c = s.sps.copy c ∧ (t.sps.copy c.other).valid = true ∧
          (t.sps.copy c.other).content = { image with epoch := image.epoch + 1 }) ∧
      ((∀ c, s.sps.newer = some c → 65535 ≤ (s.sps.copy c).content.epoch ∨ epochSaved = false) →
        t.sps.epoch = 1 ∧ t.sps.bank = defaultBank ∧ t.sps.schedule = defaultSchedule ∧
          (∀ code : Fin 64, t.sps.products[code] = ProductEntry.unused) ∧
          t.hlc.flags.getD EventClass.settingsLost.code false = true ∧
          (defaultSaved = true → ∃ c, (t.sps.copy c).valid = true ∧ (t.sps.copy c).content = defaultContent))

/-! ### The whole machine -/

/-- A step carries out the command at the front of the queue with the queue's rest. On an empty queue the block idles: one
millisecond of the main clock passes while the main domain runs (the model's choice, log entry 8). -/
def Obligations.StepRunsTheFrontCommand : Prop :=
  ∀ s : State,
    (∀ c rest, s.pending = c :: rest → step s = exec c (s.withPending rest)) ∧
    (s.pending = [] → step s = .next (if mainOn s then s.withMs (s.ms + 1) else s))

/-- R203, R205: while the main domain does not run, a command other than a clock advance and the events of the supply and of RESET
changes nothing but what the sensor inputs show: the two beam inputs and the last fall of ROTn of a lane, and the last fall of
CHAIR. Every command answers a next state and leaves the queue of waiting commands and the strap inputs as they are. -/
def Obligations.CommandsWithoutTheMainDomain : Prop :=
  ∀ (s : State) (i : Instr), ∃ t, exec i s = .next t ∧ t.pending = s.pending ∧ t.pins = s.pins ∧
    (mainOn s = false → actsWithoutMain i = false → OnlyChanges [.lanes, .sm] s t ∧
      t.sm = { s.sm with chair := { s.sm.chair with fall := t.sm.chair.fall } } ∧
      ∀ n, ∃ entry exit fall, t.lane n = { s.lane n with
        entryPin := entry, exitPin := exit, rotation := { (s.lane n).rotation with fall := fall } })

/-- R206 and the reset values: the state right after reset meets every invariant. -/
def Obligations.ResetMeetsTheInvariants : Prop :=
  StoreOk State.reset ∧ DenyListOk State.reset ∧ StampsRise State.reset ∧ WindowOk State.reset ∧
    MembersDistinct State.reset ∧ LanesOffWithoutMain State.reset ∧ DaySecondOk State.reset ∧
    LogOk State.reset ∧ SpansOk State.reset ∧ InquiryOk State.reset ∧ CreditsOk State.reset

/-- The store device's contents keep their canonical form under every step (the model's form of the store, log entry
7). -/
def Obligations.EveryStepKeepsTheStoreForm : Prop :=
  ∀ s t : State, StoreOk s → step s = .next t → StoreOk t

/-- R172: the stamps of the journal rise from the head to the tail under every step. -/
def Obligations.EveryStepKeepsStampsRising : Prop :=
  ∀ s t : State, StampsRise s → step s = .next t → StampsRise t

/-- R168, R103, R40, R28, R118, R131, R65, R174, R80: under every step the deny list stays ascending within its capacity, a window
never has more seats granted than it has, no pass is in the active pass set twice, every lane is OFF while the main domain does not
run, the day second stays in a day, the closure log keeps one entry a day in day order and at most 96, and the accrued spans stay at
most 8, in time order and disjoint, none past the clock and only the last open. The entries of the posting queue and the posting
credits never exceed 32, nor the records and the journal credits 1,024, where every holder of a credit is counted, and every holder
stays counted. A pending inquiry exists only while the link is ONLINE, and the wait list holds entries only while one is pending. -/
def Obligations.EveryStepKeepsTheBounds : Prop :=
  ∀ s t : State, step s = .next t →
    (DenyListOk s → DenyListOk t) ∧ (WindowOk s → WindowOk t) ∧ (MembersDistinct s → MembersDistinct t) ∧
      (LanesOffWithoutMain s → LanesOffWithoutMain t) ∧ (DaySecondOk s → DaySecondOk t) ∧ (LogOk s → LogOk t) ∧
      (SpansOk s → SpansOk t) ∧ (InquiryOk s → InquiryOk t) ∧ (CreditsOk s → CreditsOk t)
end

