-- ==== Sys2Proof/Laws/State.lean ====
section
/-! SUPPORT. One lemma per field per update of State, true by rfl, and the small lemmas of the access to a lane. -/

namespace Sys2Proof.Machine
-- one theorem at a time: the package as one text elaborates within the memory limit
set_option Elab.async false

section
variable (s : State) (x : Lanes Lane)
@[simp] theorem withLanes_lanes : (s.withLanes x).lanes = x := rfl
@[simp] theorem withLanes_ae : (s.withLanes x).ae = s.ae := rfl
@[simp] theorem withLanes_psc : (s.withLanes x).psc = s.psc := rfl
@[simp] theorem withLanes_iqu : (s.withLanes x).iqu = s.iqu := rfl
@[simp] theorem withLanes_sm : (s.withLanes x).sm = s.sm := rfl
@[simp] theorem withLanes_du : (s.withLanes x).du = s.du := rfl
@[simp] theorem withLanes_ru : (s.withLanes x).ru = s.ru := rfl
@[simp] theorem withLanes_lsu : (s.withLanes x).lsu = s.lsu := rfl
@[simp] theorem withLanes_jnl : (s.withLanes x).jnl = s.jnl := rfl
@[simp] theorem withLanes_hlc : (s.withLanes x).hlc = s.hlc := rfl
@[simp] theorem withLanes_sps : (s.withLanes x).sps = s.sps := rfl
@[simp] theorem withLanes_pins : (s.withLanes x).pins = s.pins := rfl
@[simp] theorem withLanes_store : (s.withLanes x).store = s.store := rfl
@[simp] theorem withLanes_ms : (s.withLanes x).ms = s.ms := rfl
@[simp] theorem withLanes_drawn : (s.withLanes x).drawn = s.drawn := rfl
@[simp] theorem withLanes_pending : (s.withLanes x).pending = s.pending := rfl
end

section
variable (s : State) (x : AeState)
@[simp] theorem withAe_lanes : (s.withAe x).lanes = s.lanes := rfl
@[simp] theorem withAe_ae : (s.withAe x).ae = x := rfl
@[simp] theorem withAe_psc : (s.withAe x).psc = s.psc := rfl
@[simp] theorem withAe_iqu : (s.withAe x).iqu = s.iqu := rfl
@[simp] theorem withAe_sm : (s.withAe x).sm = s.sm := rfl
@[simp] theorem withAe_du : (s.withAe x).du = s.du := rfl
@[simp] theorem withAe_ru : (s.withAe x).ru = s.ru := rfl
@[simp] theorem withAe_lsu : (s.withAe x).lsu = s.lsu := rfl
@[simp] theorem withAe_jnl : (s.withAe x).jnl = s.jnl := rfl
@[simp] theorem withAe_hlc : (s.withAe x).hlc = s.hlc := rfl
@[simp] theorem withAe_sps : (s.withAe x).sps = s.sps := rfl
@[simp] theorem withAe_pins : (s.withAe x).pins = s.pins := rfl
@[simp] theorem withAe_store : (s.withAe x).store = s.store := rfl
@[simp] theorem withAe_ms : (s.withAe x).ms = s.ms := rfl
@[simp] theorem withAe_drawn : (s.withAe x).drawn = s.drawn := rfl
@[simp] theorem withAe_pending : (s.withAe x).pending = s.pending := rfl
end

section
variable (s : State) (x : PscState)
@[simp] theorem withPsc_lanes : (s.withPsc x).lanes = s.lanes := rfl
@[simp] theorem withPsc_ae : (s.withPsc x).ae = s.ae := rfl
@[simp] theorem withPsc_psc : (s.withPsc x).psc = x := rfl
@[simp] theorem withPsc_iqu : (s.withPsc x).iqu = s.iqu := rfl
@[simp] theorem withPsc_sm : (s.withPsc x).sm = s.sm := rfl
@[simp] theorem withPsc_du : (s.withPsc x).du = s.du := rfl
@[simp] theorem withPsc_ru : (s.withPsc x).ru = s.ru := rfl
@[simp] theorem withPsc_lsu : (s.withPsc x).lsu = s.lsu := rfl
@[simp] theorem withPsc_jnl : (s.withPsc x).jnl = s.jnl := rfl
@[simp] theorem withPsc_hlc : (s.withPsc x).hlc = s.hlc := rfl
@[simp] theorem withPsc_sps : (s.withPsc x).sps = s.sps := rfl
@[simp] theorem withPsc_pins : (s.withPsc x).pins = s.pins := rfl
@[simp] theorem withPsc_store : (s.withPsc x).store = s.store := rfl
@[simp] theorem withPsc_ms : (s.withPsc x).ms = s.ms := rfl
@[simp] theorem withPsc_drawn : (s.withPsc x).drawn = s.drawn := rfl
@[simp] theorem withPsc_pending : (s.withPsc x).pending = s.pending := rfl
end

section
variable (s : State) (x : IquState)
@[simp] theorem withIqu_lanes : (s.withIqu x).lanes = s.lanes := rfl
@[simp] theorem withIqu_ae : (s.withIqu x).ae = s.ae := rfl
@[simp] theorem withIqu_psc : (s.withIqu x).psc = s.psc := rfl
@[simp] theorem withIqu_iqu : (s.withIqu x).iqu = x := rfl
@[simp] theorem withIqu_sm : (s.withIqu x).sm = s.sm := rfl
@[simp] theorem withIqu_du : (s.withIqu x).du = s.du := rfl
@[simp] theorem withIqu_ru : (s.withIqu x).ru = s.ru := rfl
@[simp] theorem withIqu_lsu : (s.withIqu x).lsu = s.lsu := rfl
@[simp] theorem withIqu_jnl : (s.withIqu x).jnl = s.jnl := rfl
@[simp] theorem withIqu_hlc : (s.withIqu x).hlc = s.hlc := rfl
@[simp] theorem withIqu_sps : (s.withIqu x).sps = s.sps := rfl
@[simp] theorem withIqu_pins : (s.withIqu x).pins = s.pins := rfl
@[simp] theorem withIqu_store : (s.withIqu x).store = s.store := rfl
@[simp] theorem withIqu_ms : (s.withIqu x).ms = s.ms := rfl
@[simp] theorem withIqu_drawn : (s.withIqu x).drawn = s.drawn := rfl
@[simp] theorem withIqu_pending : (s.withIqu x).pending = s.pending := rfl
end

section
variable (s : State) (x : SmState)
@[simp] theorem withSm_lanes : (s.withSm x).lanes = s.lanes := rfl
@[simp] theorem withSm_ae : (s.withSm x).ae = s.ae := rfl
@[simp] theorem withSm_psc : (s.withSm x).psc = s.psc := rfl
@[simp] theorem withSm_iqu : (s.withSm x).iqu = s.iqu := rfl
@[simp] theorem withSm_sm : (s.withSm x).sm = x := rfl
@[simp] theorem withSm_du : (s.withSm x).du = s.du := rfl
@[simp] theorem withSm_ru : (s.withSm x).ru = s.ru := rfl
@[simp] theorem withSm_lsu : (s.withSm x).lsu = s.lsu := rfl
@[simp] theorem withSm_jnl : (s.withSm x).jnl = s.jnl := rfl
@[simp] theorem withSm_hlc : (s.withSm x).hlc = s.hlc := rfl
@[simp] theorem withSm_sps : (s.withSm x).sps = s.sps := rfl
@[simp] theorem withSm_pins : (s.withSm x).pins = s.pins := rfl
@[simp] theorem withSm_store : (s.withSm x).store = s.store := rfl
@[simp] theorem withSm_ms : (s.withSm x).ms = s.ms := rfl
@[simp] theorem withSm_drawn : (s.withSm x).drawn = s.drawn := rfl
@[simp] theorem withSm_pending : (s.withSm x).pending = s.pending := rfl
end

section
variable (s : State) (x : DuState)
@[simp] theorem withDu_lanes : (s.withDu x).lanes = s.lanes := rfl
@[simp] theorem withDu_ae : (s.withDu x).ae = s.ae := rfl
@[simp] theorem withDu_psc : (s.withDu x).psc = s.psc := rfl
@[simp] theorem withDu_iqu : (s.withDu x).iqu = s.iqu := rfl
@[simp] theorem withDu_sm : (s.withDu x).sm = s.sm := rfl
@[simp] theorem withDu_du : (s.withDu x).du = x := rfl
@[simp] theorem withDu_ru : (s.withDu x).ru = s.ru := rfl
@[simp] theorem withDu_lsu : (s.withDu x).lsu = s.lsu := rfl
@[simp] theorem withDu_jnl : (s.withDu x).jnl = s.jnl := rfl
@[simp] theorem withDu_hlc : (s.withDu x).hlc = s.hlc := rfl
@[simp] theorem withDu_sps : (s.withDu x).sps = s.sps := rfl
@[simp] theorem withDu_pins : (s.withDu x).pins = s.pins := rfl
@[simp] theorem withDu_store : (s.withDu x).store = s.store := rfl
@[simp] theorem withDu_ms : (s.withDu x).ms = s.ms := rfl
@[simp] theorem withDu_drawn : (s.withDu x).drawn = s.drawn := rfl
@[simp] theorem withDu_pending : (s.withDu x).pending = s.pending := rfl
end

section
variable (s : State) (x : RuState)
@[simp] theorem withRu_lanes : (s.withRu x).lanes = s.lanes := rfl
@[simp] theorem withRu_ae : (s.withRu x).ae = s.ae := rfl
@[simp] theorem withRu_psc : (s.withRu x).psc = s.psc := rfl
@[simp] theorem withRu_iqu : (s.withRu x).iqu = s.iqu := rfl
@[simp] theorem withRu_sm : (s.withRu x).sm = s.sm := rfl
@[simp] theorem withRu_du : (s.withRu x).du = s.du := rfl
@[simp] theorem withRu_ru : (s.withRu x).ru = x := rfl
@[simp] theorem withRu_lsu : (s.withRu x).lsu = s.lsu := rfl
@[simp] theorem withRu_jnl : (s.withRu x).jnl = s.jnl := rfl
@[simp] theorem withRu_hlc : (s.withRu x).hlc = s.hlc := rfl
@[simp] theorem withRu_sps : (s.withRu x).sps = s.sps := rfl
@[simp] theorem withRu_pins : (s.withRu x).pins = s.pins := rfl
@[simp] theorem withRu_store : (s.withRu x).store = s.store := rfl
@[simp] theorem withRu_ms : (s.withRu x).ms = s.ms := rfl
@[simp] theorem withRu_drawn : (s.withRu x).drawn = s.drawn := rfl
@[simp] theorem withRu_pending : (s.withRu x).pending = s.pending := rfl
end

section
variable (s : State) (x : LsuState)
@[simp] theorem withLsu_lanes : (s.withLsu x).lanes = s.lanes := rfl
@[simp] theorem withLsu_ae : (s.withLsu x).ae = s.ae := rfl
@[simp] theorem withLsu_psc : (s.withLsu x).psc = s.psc := rfl
@[simp] theorem withLsu_iqu : (s.withLsu x).iqu = s.iqu := rfl
@[simp] theorem withLsu_sm : (s.withLsu x).sm = s.sm := rfl
@[simp] theorem withLsu_du : (s.withLsu x).du = s.du := rfl
@[simp] theorem withLsu_ru : (s.withLsu x).ru = s.ru := rfl
@[simp] theorem withLsu_lsu : (s.withLsu x).lsu = x := rfl
@[simp] theorem withLsu_jnl : (s.withLsu x).jnl = s.jnl := rfl
@[simp] theorem withLsu_hlc : (s.withLsu x).hlc = s.hlc := rfl
@[simp] theorem withLsu_sps : (s.withLsu x).sps = s.sps := rfl
@[simp] theorem withLsu_pins : (s.withLsu x).pins = s.pins := rfl
@[simp] theorem withLsu_store : (s.withLsu x).store = s.store := rfl
@[simp] theorem withLsu_ms : (s.withLsu x).ms = s.ms := rfl
@[simp] theorem withLsu_drawn : (s.withLsu x).drawn = s.drawn := rfl
@[simp] theorem withLsu_pending : (s.withLsu x).pending = s.pending := rfl
end

section
variable (s : State) (x : JnlState)
@[simp] theorem withJnl_lanes : (s.withJnl x).lanes = s.lanes := rfl
@[simp] theorem withJnl_ae : (s.withJnl x).ae = s.ae := rfl
@[simp] theorem withJnl_psc : (s.withJnl x).psc = s.psc := rfl
@[simp] theorem withJnl_iqu : (s.withJnl x).iqu = s.iqu := rfl
@[simp] theorem withJnl_sm : (s.withJnl x).sm = s.sm := rfl
@[simp] theorem withJnl_du : (s.withJnl x).du = s.du := rfl
@[simp] theorem withJnl_ru : (s.withJnl x).ru = s.ru := rfl
@[simp] theorem withJnl_lsu : (s.withJnl x).lsu = s.lsu := rfl
@[simp] theorem withJnl_jnl : (s.withJnl x).jnl = x := rfl
@[simp] theorem withJnl_hlc : (s.withJnl x).hlc = s.hlc := rfl
@[simp] theorem withJnl_sps : (s.withJnl x).sps = s.sps := rfl
@[simp] theorem withJnl_pins : (s.withJnl x).pins = s.pins := rfl
@[simp] theorem withJnl_store : (s.withJnl x).store = s.store := rfl
@[simp] theorem withJnl_ms : (s.withJnl x).ms = s.ms := rfl
@[simp] theorem withJnl_drawn : (s.withJnl x).drawn = s.drawn := rfl
@[simp] theorem withJnl_pending : (s.withJnl x).pending = s.pending := rfl
end

section
variable (s : State) (x : HlcState)
@[simp] theorem withHlc_lanes : (s.withHlc x).lanes = s.lanes := rfl
@[simp] theorem withHlc_ae : (s.withHlc x).ae = s.ae := rfl
@[simp] theorem withHlc_psc : (s.withHlc x).psc = s.psc := rfl
@[simp] theorem withHlc_iqu : (s.withHlc x).iqu = s.iqu := rfl
@[simp] theorem withHlc_sm : (s.withHlc x).sm = s.sm := rfl
@[simp] theorem withHlc_du : (s.withHlc x).du = s.du := rfl
@[simp] theorem withHlc_ru : (s.withHlc x).ru = s.ru := rfl
@[simp] theorem withHlc_lsu : (s.withHlc x).lsu = s.lsu := rfl
@[simp] theorem withHlc_jnl : (s.withHlc x).jnl = s.jnl := rfl
@[simp] theorem withHlc_hlc : (s.withHlc x).hlc = x := rfl
@[simp] theorem withHlc_sps : (s.withHlc x).sps = s.sps := rfl
@[simp] theorem withHlc_pins : (s.withHlc x).pins = s.pins := rfl
@[simp] theorem withHlc_store : (s.withHlc x).store = s.store := rfl
@[simp] theorem withHlc_ms : (s.withHlc x).ms = s.ms := rfl
@[simp] theorem withHlc_drawn : (s.withHlc x).drawn = s.drawn := rfl
@[simp] theorem withHlc_pending : (s.withHlc x).pending = s.pending := rfl
end

section
variable (s : State) (x : SpsState)
@[simp] theorem withSps_lanes : (s.withSps x).lanes = s.lanes := rfl
@[simp] theorem withSps_ae : (s.withSps x).ae = s.ae := rfl
@[simp] theorem withSps_psc : (s.withSps x).psc = s.psc := rfl
@[simp] theorem withSps_iqu : (s.withSps x).iqu = s.iqu := rfl
@[simp] theorem withSps_sm : (s.withSps x).sm = s.sm := rfl
@[simp] theorem withSps_du : (s.withSps x).du = s.du := rfl
@[simp] theorem withSps_ru : (s.withSps x).ru = s.ru := rfl
@[simp] theorem withSps_lsu : (s.withSps x).lsu = s.lsu := rfl
@[simp] theorem withSps_jnl : (s.withSps x).jnl = s.jnl := rfl
@[simp] theorem withSps_hlc : (s.withSps x).hlc = s.hlc := rfl
@[simp] theorem withSps_sps : (s.withSps x).sps = x := rfl
@[simp] theorem withSps_pins : (s.withSps x).pins = s.pins := rfl
@[simp] theorem withSps_store : (s.withSps x).store = s.store := rfl
@[simp] theorem withSps_ms : (s.withSps x).ms = s.ms := rfl
@[simp] theorem withSps_drawn : (s.withSps x).drawn = s.drawn := rfl
@[simp] theorem withSps_pending : (s.withSps x).pending = s.pending := rfl
end

section
variable (s : State) (x : Memory)
@[simp] theorem withStore_lanes : (s.withStore x).lanes = s.lanes := rfl
@[simp] theorem withStore_ae : (s.withStore x).ae = s.ae := rfl
@[simp] theorem withStore_psc : (s.withStore x).psc = s.psc := rfl
@[simp] theorem withStore_iqu : (s.withStore x).iqu = s.iqu := rfl
@[simp] theorem withStore_sm : (s.withStore x).sm = s.sm := rfl
@[simp] theorem withStore_du : (s.withStore x).du = s.du := rfl
@[simp] theorem withStore_ru : (s.withStore x).ru = s.ru := rfl
@[simp] theorem withStore_lsu : (s.withStore x).lsu = s.lsu := rfl
@[simp] theorem withStore_jnl : (s.withStore x).jnl = s.jnl := rfl
@[simp] theorem withStore_hlc : (s.withStore x).hlc = s.hlc := rfl
@[simp] theorem withStore_sps : (s.withStore x).sps = s.sps := rfl
@[simp] theorem withStore_pins : (s.withStore x).pins = s.pins := rfl
@[simp] theorem withStore_store : (s.withStore x).store = x := rfl
@[simp] theorem withStore_ms : (s.withStore x).ms = s.ms := rfl
@[simp] theorem withStore_drawn : (s.withStore x).drawn = s.drawn := rfl
@[simp] theorem withStore_pending : (s.withStore x).pending = s.pending := rfl
end

section
variable (s : State) (x : Nat)
@[simp] theorem withMs_lanes : (s.withMs x).lanes = s.lanes := rfl
@[simp] theorem withMs_ae : (s.withMs x).ae = s.ae := rfl
@[simp] theorem withMs_psc : (s.withMs x).psc = s.psc := rfl
@[simp] theorem withMs_iqu : (s.withMs x).iqu = s.iqu := rfl
@[simp] theorem withMs_sm : (s.withMs x).sm = s.sm := rfl
@[simp] theorem withMs_du : (s.withMs x).du = s.du := rfl
@[simp] theorem withMs_ru : (s.withMs x).ru = s.ru := rfl
@[simp] theorem withMs_lsu : (s.withMs x).lsu = s.lsu := rfl
@[simp] theorem withMs_jnl : (s.withMs x).jnl = s.jnl := rfl
@[simp] theorem withMs_hlc : (s.withMs x).hlc = s.hlc := rfl
@[simp] theorem withMs_sps : (s.withMs x).sps = s.sps := rfl
@[simp] theorem withMs_pins : (s.withMs x).pins = s.pins := rfl
@[simp] theorem withMs_store : (s.withMs x).store = s.store := rfl
@[simp] theorem withMs_ms : (s.withMs x).ms = x := rfl
@[simp] theorem withMs_drawn : (s.withMs x).drawn = s.drawn := rfl
@[simp] theorem withMs_pending : (s.withMs x).pending = s.pending := rfl
end

section
variable (s : State) (x : Nat)
@[simp] theorem withDrawn_lanes : (s.withDrawn x).lanes = s.lanes := rfl
@[simp] theorem withDrawn_ae : (s.withDrawn x).ae = s.ae := rfl
@[simp] theorem withDrawn_psc : (s.withDrawn x).psc = s.psc := rfl
@[simp] theorem withDrawn_iqu : (s.withDrawn x).iqu = s.iqu := rfl
@[simp] theorem withDrawn_sm : (s.withDrawn x).sm = s.sm := rfl
@[simp] theorem withDrawn_du : (s.withDrawn x).du = s.du := rfl
@[simp] theorem withDrawn_ru : (s.withDrawn x).ru = s.ru := rfl
@[simp] theorem withDrawn_lsu : (s.withDrawn x).lsu = s.lsu := rfl
@[simp] theorem withDrawn_jnl : (s.withDrawn x).jnl = s.jnl := rfl
@[simp] theorem withDrawn_hlc : (s.withDrawn x).hlc = s.hlc := rfl
@[simp] theorem withDrawn_sps : (s.withDrawn x).sps = s.sps := rfl
@[simp] theorem withDrawn_pins : (s.withDrawn x).pins = s.pins := rfl
@[simp] theorem withDrawn_store : (s.withDrawn x).store = s.store := rfl
@[simp] theorem withDrawn_ms : (s.withDrawn x).ms = s.ms := rfl
@[simp] theorem withDrawn_drawn : (s.withDrawn x).drawn = x := rfl
@[simp] theorem withDrawn_pending : (s.withDrawn x).pending = s.pending := rfl
end

section
variable (s : State) (x : List Instr)
@[simp] theorem withPending_lanes : (s.withPending x).lanes = s.lanes := rfl
@[simp] theorem withPending_ae : (s.withPending x).ae = s.ae := rfl
@[simp] theorem withPending_psc : (s.withPending x).psc = s.psc := rfl
@[simp] theorem withPending_iqu : (s.withPending x).iqu = s.iqu := rfl
@[simp] theorem withPending_sm : (s.withPending x).sm = s.sm := rfl
@[simp] theorem withPending_du : (s.withPending x).du = s.du := rfl
@[simp] theorem withPending_ru : (s.withPending x).ru = s.ru := rfl
@[simp] theorem withPending_lsu : (s.withPending x).lsu = s.lsu := rfl
@[simp] theorem withPending_jnl : (s.withPending x).jnl = s.jnl := rfl
@[simp] theorem withPending_hlc : (s.withPending x).hlc = s.hlc := rfl
@[simp] theorem withPending_sps : (s.withPending x).sps = s.sps := rfl
@[simp] theorem withPending_pins : (s.withPending x).pins = s.pins := rfl
@[simp] theorem withPending_store : (s.withPending x).store = s.store := rfl
@[simp] theorem withPending_ms : (s.withPending x).ms = s.ms := rfl
@[simp] theorem withPending_drawn : (s.withPending x).drawn = s.drawn := rfl
@[simp] theorem withPending_pending : (s.withPending x).pending = x := rfl
end

/-! ### Lanes -/

@[simp] theorem lanes_get_set_self {α : Type} (t : Lanes α) (n : LaneNo) (x : α) : (t.set n x).get n = x := by
  cases n <;> rfl

theorem lanes_get_set_other {α : Type} (t : Lanes α) (n m : LaneNo) (x : α) (h : m ≠ n) :
    (t.set n x).get m = t.get m := by
  cases n <;> cases m <;> first | rfl | exact absurd rfl h

@[simp] theorem lanes_get_ofFn {α : Type} (f : LaneNo → α) (n : LaneNo) : (Lanes.ofFn f).get n = f n := by
  cases n <;> rfl

@[simp] theorem slots_get_set_self {α : Type} (t : Slots α) (k : SlotNo) (x : α) : (t.set k x).get k = x := by
  cases k <;> rfl

theorem slots_get_set_other {α : Type} (t : Slots α) (k j : SlotNo) (x : α) (h : j ≠ k) :
    (t.set k x).get j = t.get j := by
  cases k <;> cases j <;> first | rfl | exact absurd rfl h

@[simp] theorem slots_set_set {α : Type} (t : Slots α) (k : SlotNo) (x y : α) : (t.set k x).set k y = t.set k y := by
  cases k <;> rfl

@[simp] theorem lane_modLane_self (n : LaneNo) (f : Lane → Lane) (s : State) : (modLane n f s).lane n = f (s.lane n) := by
  simp [modLane, State.setLane, State.lane]

theorem lane_modLane_other (n m : LaneNo) (f : Lane → Lane) (s : State) (h : m ≠ n) :
    (modLane n f s).lane m = s.lane m := by
  simp [modLane, State.setLane, State.lane, lanes_get_set_other _ _ _ _ h]

/-- A change of a lane's context changes nothing but the lanes. -/
theorem modLane_eq (n : LaneNo) (f : Lane → Lane) (s : State) :
    modLane n f s = s.withLanes (s.lanes.set n (f (s.lanes.get n))) := rfl

end Sys2Proof.Machine
end

