-- ==== Sys2Proof/Laws/FrameLink.lean ====
section
/-! SUPPORT. Frames of the operations of the host link, the settings store and the journal: what each leaves as it was, one simp lemma an operation. -/

namespace Sys2Proof.Machine
-- one theorem at a time: the package as one text elaborates within the memory limit
set_option Elab.async false
open Sys2Proof.Config

@[simp] theorem setCopy_frame (x : SpsState) (c : Copy) (i : SettingsImage) :
    (x.setCopy c i).bank = x.bank ∧ (x.setCopy c i).schedule = x.schedule ∧ (x.setCopy c i).products = x.products ∧
      (x.setCopy c i).supply = x.supply ∧ (x.setCopy c i).cause = x.cause ∧ (x.setCopy c i).straps = x.straps ∧
      (x.setCopy c i).resetHeld = x.resetHeld ∧ (x.setCopy c i).retainedLost = x.retainedLost ∧ (x.setCopy c i).epoch = x.epoch ∧
      (x.setCopy c i).epochOwed = x.epochOwed ∧ (x.setCopy c i).writing = x.writing ∧ (x.setCopy c i).queued = x.queued := by
  cases c <;> simp [SpsState.setCopy]

@[simp] theorem begin_frame (x : SpsState) (job : SettingsJob) :
    (x.begin job).bank = x.bank ∧ (x.begin job).schedule = x.schedule ∧ (x.begin job).products = x.products ∧
      (x.begin job).supply = x.supply ∧ (x.begin job).cause = x.cause ∧ (x.begin job).straps = x.straps ∧
      (x.begin job).resetHeld = x.resetHeld ∧ (x.begin job).retainedLost = x.retainedLost ∧ (x.begin job).epoch = x.epoch ∧
      (x.begin job).epochOwed = x.epochOwed ∧ (x.begin job).copyA = x.copyA ∧ (x.begin job).copyB = x.copyB ∧
      (x.begin job).queued = x.queued := by
  simp [SpsState.begin]

@[simp] theorem startNext_frame (x : SpsState) :
    x.startNext.bank = x.bank ∧ x.startNext.schedule = x.schedule ∧ x.startNext.products = x.products ∧
      x.startNext.supply = x.supply ∧ x.startNext.cause = x.cause ∧ x.startNext.straps = x.straps ∧
      x.startNext.resetHeld = x.resetHeld ∧ x.startNext.retainedLost = x.retainedLost ∧ x.startNext.epoch = x.epoch ∧
      x.startNext.epochOwed = x.epochOwed ∧ x.startNext.copyA = x.copyA ∧ x.startNext.copyB = x.copyB := by
  unfold SpsState.startNext; split <;> simp

@[simp] theorem setLane_frame (n : LaneNo) (l : Lane) (s : State) :
    (s.setLane n l).ae = s.ae ∧ (s.setLane n l).psc = s.psc ∧ (s.setLane n l).iqu = s.iqu ∧
      (s.setLane n l).sm = s.sm ∧ (s.setLane n l).du = s.du ∧ (s.setLane n l).ru = s.ru ∧
      (s.setLane n l).lsu = s.lsu ∧ (s.setLane n l).jnl = s.jnl ∧ (s.setLane n l).hlc = s.hlc ∧
      (s.setLane n l).sps = s.sps ∧ (s.setLane n l).pins = s.pins ∧ (s.setLane n l).store = s.store ∧
      (s.setLane n l).ms = s.ms ∧ (s.setLane n l).drawn = s.drawn ∧ (s.setLane n l).pending = s.pending ∧
      mainOn (s.setLane n l) = mainOn s ∧ (s.setLane n l).now = s.now := by
  and_intros <;> (unfold State.setLane; simp [mainOn, State.now])

@[simp] theorem reach_frame (t : Nat) (s : State) :
    (s.reach t).lanes = s.lanes ∧ (s.reach t).ae = s.ae ∧ (s.reach t).psc = s.psc ∧ (s.reach t).iqu = s.iqu ∧
      (s.reach t).sm = s.sm ∧ (s.reach t).du = s.du ∧ (s.reach t).ru = s.ru ∧ (s.reach t).lsu = s.lsu ∧
      (s.reach t).jnl = s.jnl ∧ (s.reach t).hlc = s.hlc ∧ (s.reach t).sps = s.sps ∧ (s.reach t).pins = s.pins ∧
      (s.reach t).store = s.store ∧ (s.reach t).drawn = s.drawn ∧ (s.reach t).pending = s.pending ∧
      mainOn (s.reach t) = mainOn s ∧ (s.reach t).now = s.now := by
  and_intros <;> (unfold State.reach; simp [mainOn, State.now])

@[simp] theorem countLane_frame (n : LaneNo) (f : LaneCounters → LaneCounters) (s : State) :
    (countLane n f s).lanes = s.lanes ∧ (countLane n f s).ae = s.ae ∧ (countLane n f s).psc = s.psc ∧
      (countLane n f s).iqu = s.iqu ∧ (countLane n f s).sm = s.sm ∧ (countLane n f s).du = s.du ∧
      (countLane n f s).ru = s.ru ∧ (countLane n f s).lsu = s.lsu ∧ (countLane n f s).hlc = s.hlc ∧
      (countLane n f s).sps = s.sps ∧ (countLane n f s).pins = s.pins ∧ (countLane n f s).store = s.store ∧
      (countLane n f s).ms = s.ms ∧ (countLane n f s).drawn = s.drawn ∧ (countLane n f s).pending = s.pending ∧
      (countLane n f s).jnl.records = s.jnl.records ∧ (countLane n f s).jnl.nextSeq = s.jnl.nextSeq ∧
      (countLane n f s).jnl.credits = s.jnl.credits ∧ mainOn (countLane n f s) = mainOn s ∧
      (countLane n f s).now = s.now := by
  and_intros <;> (unfold countLane; simp [mainOn, State.now])

@[simp] theorem countDay_frame (f : DayCounters → DayCounters) (s : State) :
    (countDay f s).lanes = s.lanes ∧ (countDay f s).ae = s.ae ∧ (countDay f s).psc = s.psc ∧
      (countDay f s).iqu = s.iqu ∧ (countDay f s).sm = s.sm ∧ (countDay f s).du = s.du ∧ (countDay f s).ru = s.ru ∧
      (countDay f s).lsu = s.lsu ∧ (countDay f s).hlc = s.hlc ∧ (countDay f s).sps = s.sps ∧
      (countDay f s).pins = s.pins ∧ (countDay f s).store = s.store ∧ (countDay f s).ms = s.ms ∧
      (countDay f s).drawn = s.drawn ∧ (countDay f s).pending = s.pending ∧
      (countDay f s).jnl.records = s.jnl.records ∧ (countDay f s).jnl.nextSeq = s.jnl.nextSeq ∧
      (countDay f s).jnl.credits = s.jnl.credits ∧ mainOn (countDay f s) = mainOn s ∧ (countDay f s).now = s.now := by
  and_intros <;> (unfold countDay; simp [mainOn, State.now])

@[simp] theorem countCumulative_frame (f : Cumulative → Cumulative) (s : State) :
    (countCumulative f s).lanes = s.lanes ∧ (countCumulative f s).ae = s.ae ∧ (countCumulative f s).psc = s.psc ∧
      (countCumulative f s).iqu = s.iqu ∧ (countCumulative f s).sm = s.sm ∧ (countCumulative f s).du = s.du ∧
      (countCumulative f s).ru = s.ru ∧ (countCumulative f s).lsu = s.lsu ∧ (countCumulative f s).hlc = s.hlc ∧
      (countCumulative f s).sps = s.sps ∧ (countCumulative f s).pins = s.pins ∧
      (countCumulative f s).store = s.store ∧ (countCumulative f s).ms = s.ms ∧
      (countCumulative f s).drawn = s.drawn ∧ (countCumulative f s).pending = s.pending ∧
      (countCumulative f s).jnl.records = s.jnl.records ∧ (countCumulative f s).jnl.nextSeq = s.jnl.nextSeq ∧
      (countCumulative f s).jnl.credits = s.jnl.credits ∧ mainOn (countCumulative f s) = mainOn s ∧
      (countCumulative f s).now = s.now := by
  and_intros <;> (unfold countCumulative; simp [mainOn, State.now])

@[simp] theorem countRiders_frame (n : Nat) (s : State) :
    (countRiders n s).lanes = s.lanes ∧ (countRiders n s).ae = s.ae ∧ (countRiders n s).psc = s.psc ∧
      (countRiders n s).iqu = s.iqu ∧ (countRiders n s).sm = s.sm ∧ (countRiders n s).du = s.du ∧
      (countRiders n s).ru = s.ru ∧ (countRiders n s).lsu = s.lsu ∧ (countRiders n s).hlc = s.hlc ∧
      (countRiders n s).sps = s.sps ∧ (countRiders n s).pins = s.pins ∧ (countRiders n s).store = s.store ∧
      (countRiders n s).ms = s.ms ∧ (countRiders n s).drawn = s.drawn ∧ (countRiders n s).pending = s.pending ∧
      (countRiders n s).jnl.records = s.jnl.records ∧ (countRiders n s).jnl.nextSeq = s.jnl.nextSeq ∧
      (countRiders n s).jnl.credits = s.jnl.credits ∧ mainOn (countRiders n s) = mainOn s ∧
      (countRiders n s).now = s.now := by
  and_intros <;> (unfold countRiders; simp [mainOn, State.now])

@[simp] theorem draw_frame (s : State) :
    s.draw.lanes = s.lanes ∧ s.draw.ae = s.ae ∧ s.draw.psc = s.psc ∧ s.draw.iqu = s.iqu ∧ s.draw.sm = s.sm ∧
      s.draw.du = s.du ∧ s.draw.ru = s.ru ∧ s.draw.lsu = s.lsu ∧ s.draw.jnl = s.jnl ∧ s.draw.hlc = s.hlc ∧
      s.draw.sps = s.sps ∧ s.draw.pins = s.pins ∧ s.draw.store = s.store ∧ s.draw.ms = s.ms ∧
      s.draw.pending = s.pending ∧ mainOn s.draw = mainOn s ∧ s.draw.now = s.now := by
  and_intros <;> (unfold State.draw; simp [mainOn, State.now])

@[simp] theorem withQueue_frame (q : List OutFrame) (s : State) :
    (s.withQueue q).lanes = s.lanes ∧ (s.withQueue q).ae = s.ae ∧ (s.withQueue q).psc = s.psc ∧
      (s.withQueue q).iqu = s.iqu ∧ (s.withQueue q).sm = s.sm ∧ (s.withQueue q).du = s.du ∧
      (s.withQueue q).ru = s.ru ∧ (s.withQueue q).lsu = s.lsu ∧ (s.withQueue q).jnl = s.jnl ∧
      (s.withQueue q).sps = s.sps ∧ (s.withQueue q).pins = s.pins ∧ (s.withQueue q).store = s.store ∧
      (s.withQueue q).ms = s.ms ∧ (s.withQueue q).drawn = s.drawn ∧ (s.withQueue q).pending = s.pending ∧
      (s.withQueue q).hlc.slots = s.hlc.slots ∧ (s.withQueue q).hlc.running = s.hlc.running ∧
      (s.withQueue q).hlc.flags = s.hlc.flags ∧ mainOn (s.withQueue q) = mainOn s ∧ (s.withQueue q).now = s.now := by
  and_intros <;> (unfold State.withQueue; simp [mainOn, State.now])

@[simp] theorem sendFrame_frame (f : OutFrame) (s : State) :
    (sendFrame f s).lanes = s.lanes ∧ (sendFrame f s).ae = s.ae ∧ (sendFrame f s).psc = s.psc ∧
      (sendFrame f s).iqu = s.iqu ∧ (sendFrame f s).sm = s.sm ∧ (sendFrame f s).du = s.du ∧
      (sendFrame f s).ru = s.ru ∧ (sendFrame f s).lsu = s.lsu ∧ (sendFrame f s).jnl = s.jnl ∧
      (sendFrame f s).sps = s.sps ∧ (sendFrame f s).pins = s.pins ∧ (sendFrame f s).store = s.store ∧
      (sendFrame f s).ms = s.ms ∧ (sendFrame f s).drawn = s.drawn ∧ (sendFrame f s).pending = s.pending ∧
      (sendFrame f s).hlc.slots = s.hlc.slots ∧ (sendFrame f s).hlc.running = s.hlc.running ∧
      (sendFrame f s).hlc.flags = s.hlc.flags ∧ mainOn (sendFrame f s) = mainOn s ∧ (sendFrame f s).now = s.now := by
  and_intros <;> (unfold sendFrame; simp [mainOn, State.now])

@[simp] theorem queueEvent_frame (cls : EventClass) (lanes : LaneSet) (s : State) :
    (queueEvent cls lanes s).lanes = s.lanes ∧ (queueEvent cls lanes s).ae = s.ae ∧
      (queueEvent cls lanes s).psc = s.psc ∧ (queueEvent cls lanes s).iqu = s.iqu ∧
      (queueEvent cls lanes s).sm = s.sm ∧ (queueEvent cls lanes s).du = s.du ∧ (queueEvent cls lanes s).ru = s.ru ∧
      (queueEvent cls lanes s).lsu = s.lsu ∧ (queueEvent cls lanes s).jnl = s.jnl ∧
      (queueEvent cls lanes s).sps = s.sps ∧ (queueEvent cls lanes s).pins = s.pins ∧
      (queueEvent cls lanes s).store = s.store ∧ (queueEvent cls lanes s).ms = s.ms ∧
      (queueEvent cls lanes s).drawn = s.drawn ∧ (queueEvent cls lanes s).pending = s.pending ∧
      (queueEvent cls lanes s).hlc.slots = s.hlc.slots ∧ (queueEvent cls lanes s).hlc.running = s.hlc.running ∧
      (queueEvent cls lanes s).hlc.flags = s.hlc.flags ∧ mainOn (queueEvent cls lanes s) = mainOn s ∧
      (queueEvent cls lanes s).now = s.now := by
  and_intros <;> (unfold queueEvent; first | (simp [mainOn, State.now]; done) | (try dsimp only) <;> (repeat' split) <;> simp [mainOn, State.now])

@[simp] theorem setFlag_frame (cls : EventClass) (s : State) :
    (s.setFlag cls).lanes = s.lanes ∧ (s.setFlag cls).ae = s.ae ∧ (s.setFlag cls).psc = s.psc ∧
      (s.setFlag cls).iqu = s.iqu ∧ (s.setFlag cls).sm = s.sm ∧ (s.setFlag cls).du = s.du ∧
      (s.setFlag cls).ru = s.ru ∧ (s.setFlag cls).lsu = s.lsu ∧ (s.setFlag cls).jnl = s.jnl ∧
      (s.setFlag cls).sps = s.sps ∧ (s.setFlag cls).pins = s.pins ∧ (s.setFlag cls).store = s.store ∧
      (s.setFlag cls).ms = s.ms ∧ (s.setFlag cls).drawn = s.drawn ∧ (s.setFlag cls).pending = s.pending ∧
      (s.setFlag cls).hlc.slots = s.hlc.slots ∧ (s.setFlag cls).hlc.queue = s.hlc.queue ∧
      (s.setFlag cls).hlc.running = s.hlc.running ∧ mainOn (s.setFlag cls) = mainOn s ∧ (s.setFlag cls).now = s.now := by
  and_intros <;> (unfold State.setFlag; simp [mainOn, State.now])

@[simp] theorem setOwed_frame (cls : EventClass) (s : State) :
    (s.setOwed cls).lanes = s.lanes ∧ (s.setOwed cls).ae = s.ae ∧ (s.setOwed cls).psc = s.psc ∧
      (s.setOwed cls).iqu = s.iqu ∧ (s.setOwed cls).sm = s.sm ∧ (s.setOwed cls).du = s.du ∧
      (s.setOwed cls).ru = s.ru ∧ (s.setOwed cls).lsu = s.lsu ∧ (s.setOwed cls).jnl = s.jnl ∧
      (s.setOwed cls).sps = s.sps ∧ (s.setOwed cls).pins = s.pins ∧ (s.setOwed cls).store = s.store ∧
      (s.setOwed cls).ms = s.ms ∧ (s.setOwed cls).drawn = s.drawn ∧ (s.setOwed cls).pending = s.pending ∧
      (s.setOwed cls).hlc.slots = s.hlc.slots ∧ (s.setOwed cls).hlc.queue = s.hlc.queue ∧
      (s.setOwed cls).hlc.running = s.hlc.running ∧ (s.setOwed cls).hlc.flags = s.hlc.flags ∧
      mainOn (s.setOwed cls) = mainOn s ∧ (s.setOwed cls).now = s.now := by
  and_intros <;> (unfold State.setOwed; simp [mainOn, State.now])

@[simp] theorem foldl_setOwed_frame (cs : List EventClass) (s : State) :
    (cs.foldl State.setOwed s).lanes = s.lanes ∧ (cs.foldl State.setOwed s).ae = s.ae ∧
      (cs.foldl State.setOwed s).psc = s.psc ∧ (cs.foldl State.setOwed s).iqu = s.iqu ∧
      (cs.foldl State.setOwed s).sm = s.sm ∧ (cs.foldl State.setOwed s).du = s.du ∧
      (cs.foldl State.setOwed s).ru = s.ru ∧ (cs.foldl State.setOwed s).lsu = s.lsu ∧
      (cs.foldl State.setOwed s).jnl = s.jnl ∧ (cs.foldl State.setOwed s).sps = s.sps ∧
      (cs.foldl State.setOwed s).pins = s.pins ∧ (cs.foldl State.setOwed s).store = s.store ∧
      (cs.foldl State.setOwed s).ms = s.ms ∧ (cs.foldl State.setOwed s).drawn = s.drawn ∧
      (cs.foldl State.setOwed s).pending = s.pending ∧ (cs.foldl State.setOwed s).hlc.slots = s.hlc.slots ∧
      (cs.foldl State.setOwed s).hlc.queue = s.hlc.queue ∧ (cs.foldl State.setOwed s).hlc.running = s.hlc.running ∧
      (cs.foldl State.setOwed s).hlc.flags = s.hlc.flags ∧ mainOn (cs.foldl State.setOwed s) = mainOn s ∧
      (cs.foldl State.setOwed s).now = s.now := by
  induction cs generalizing s with
  | nil => simp
  | cons r rs ih => simp [ih]

@[simp] theorem raiseBy_frame (cls : EventClass) (lanes : LaneSet) (s : State) :
    (raiseBy cls lanes s).lanes = s.lanes ∧ (raiseBy cls lanes s).ae = s.ae ∧ (raiseBy cls lanes s).psc = s.psc ∧
      (raiseBy cls lanes s).iqu = s.iqu ∧ (raiseBy cls lanes s).sm = s.sm ∧ (raiseBy cls lanes s).du = s.du ∧
      (raiseBy cls lanes s).ru = s.ru ∧ (raiseBy cls lanes s).lsu = s.lsu ∧ (raiseBy cls lanes s).jnl = s.jnl ∧
      (raiseBy cls lanes s).sps = s.sps ∧ (raiseBy cls lanes s).pins = s.pins ∧
      (raiseBy cls lanes s).store = s.store ∧ (raiseBy cls lanes s).ms = s.ms ∧
      (raiseBy cls lanes s).drawn = s.drawn ∧ (raiseBy cls lanes s).pending = s.pending ∧
      (raiseBy cls lanes s).hlc.slots = s.hlc.slots ∧ (raiseBy cls lanes s).hlc.running = s.hlc.running ∧
      mainOn (raiseBy cls lanes s) = mainOn s ∧ (raiseBy cls lanes s).now = s.now := by
  and_intros <;> (unfold raiseBy; first | (simp [mainOn, State.now]; done) | (try dsimp only) <;> (repeat' split) <;> simp [mainOn, State.now])

@[simp] theorem raise_frame (cls : EventClass) (s : State) :
    (raise cls s).lanes = s.lanes ∧ (raise cls s).ae = s.ae ∧ (raise cls s).psc = s.psc ∧
      (raise cls s).iqu = s.iqu ∧ (raise cls s).sm = s.sm ∧ (raise cls s).du = s.du ∧ (raise cls s).ru = s.ru ∧
      (raise cls s).lsu = s.lsu ∧ (raise cls s).jnl = s.jnl ∧ (raise cls s).sps = s.sps ∧
      (raise cls s).pins = s.pins ∧ (raise cls s).store = s.store ∧ (raise cls s).ms = s.ms ∧
      (raise cls s).drawn = s.drawn ∧ (raise cls s).pending = s.pending ∧ (raise cls s).hlc.slots = s.hlc.slots ∧
      (raise cls s).hlc.running = s.hlc.running ∧ mainOn (raise cls s) = mainOn s ∧ (raise cls s).now = s.now := by
  and_intros <;> (unfold raise; simp [mainOn, State.now])

@[simp] theorem raiseLane_frame (cls : EventClass) (n : LaneNo) (s : State) :
    (raiseLane cls n s).lanes = s.lanes ∧ (raiseLane cls n s).ae = s.ae ∧ (raiseLane cls n s).psc = s.psc ∧
      (raiseLane cls n s).iqu = s.iqu ∧ (raiseLane cls n s).sm = s.sm ∧ (raiseLane cls n s).du = s.du ∧
      (raiseLane cls n s).ru = s.ru ∧ (raiseLane cls n s).lsu = s.lsu ∧ (raiseLane cls n s).jnl = s.jnl ∧
      (raiseLane cls n s).sps = s.sps ∧ (raiseLane cls n s).pins = s.pins ∧ (raiseLane cls n s).store = s.store ∧
      (raiseLane cls n s).ms = s.ms ∧ (raiseLane cls n s).drawn = s.drawn ∧ (raiseLane cls n s).pending = s.pending ∧
      (raiseLane cls n s).hlc.slots = s.hlc.slots ∧ (raiseLane cls n s).hlc.running = s.hlc.running ∧
      mainOn (raiseLane cls n s) = mainOn s ∧ (raiseLane cls n s).now = s.now := by
  and_intros <;> (unfold raiseLane; simp [mainOn, State.now])

@[simp] theorem linkError_frame (s : State) :
    (linkError s).lanes = s.lanes ∧ (linkError s).ae = s.ae ∧ (linkError s).psc = s.psc ∧
      (linkError s).iqu = s.iqu ∧ (linkError s).sm = s.sm ∧ (linkError s).du = s.du ∧ (linkError s).ru = s.ru ∧
      (linkError s).lsu = s.lsu ∧ (linkError s).jnl = s.jnl ∧ (linkError s).sps = s.sps ∧
      (linkError s).pins = s.pins ∧ (linkError s).store = s.store ∧ (linkError s).ms = s.ms ∧
      (linkError s).drawn = s.drawn ∧ (linkError s).pending = s.pending ∧ (linkError s).hlc.slots = s.hlc.slots ∧
      (linkError s).hlc.running = s.hlc.running ∧ mainOn (linkError s) = mainOn s ∧ (linkError s).now = s.now := by
  and_intros <;> (unfold linkError; simp [mainOn, State.now])

@[simp] theorem immediateReply_frame (kind : Nat) (tag : Nat) (st : Status) (s : State) :
    (immediateReply kind tag st s).lanes = s.lanes ∧ (immediateReply kind tag st s).ae = s.ae ∧
      (immediateReply kind tag st s).psc = s.psc ∧ (immediateReply kind tag st s).iqu = s.iqu ∧
      (immediateReply kind tag st s).sm = s.sm ∧ (immediateReply kind tag st s).du = s.du ∧
      (immediateReply kind tag st s).ru = s.ru ∧ (immediateReply kind tag st s).lsu = s.lsu ∧
      (immediateReply kind tag st s).jnl = s.jnl ∧ (immediateReply kind tag st s).sps = s.sps ∧
      (immediateReply kind tag st s).pins = s.pins ∧ (immediateReply kind tag st s).store = s.store ∧
      (immediateReply kind tag st s).ms = s.ms ∧ (immediateReply kind tag st s).drawn = s.drawn ∧
      (immediateReply kind tag st s).pending = s.pending ∧ (immediateReply kind tag st s).hlc.slots = s.hlc.slots ∧
      (immediateReply kind tag st s).hlc.running = s.hlc.running ∧ mainOn (immediateReply kind tag st s) = mainOn s ∧
      (immediateReply kind tag st s).now = s.now := by
  and_intros <;> (unfold immediateReply; first | (simp [mainOn, State.now]; done) | (repeat' split) <;> simp [mainOn, State.now])

@[simp] theorem setSlot_frame (k : SlotNo) (x : Option Slot) (s : State) :
    (s.setSlot k x).lanes = s.lanes ∧ (s.setSlot k x).ae = s.ae ∧ (s.setSlot k x).psc = s.psc ∧
      (s.setSlot k x).iqu = s.iqu ∧ (s.setSlot k x).sm = s.sm ∧ (s.setSlot k x).du = s.du ∧
      (s.setSlot k x).ru = s.ru ∧ (s.setSlot k x).lsu = s.lsu ∧ (s.setSlot k x).jnl = s.jnl ∧
      (s.setSlot k x).sps = s.sps ∧ (s.setSlot k x).pins = s.pins ∧ (s.setSlot k x).store = s.store ∧
      (s.setSlot k x).ms = s.ms ∧ (s.setSlot k x).drawn = s.drawn ∧ (s.setSlot k x).pending = s.pending ∧
      (s.setSlot k x).hlc.queue = s.hlc.queue ∧ (s.setSlot k x).hlc.running = s.hlc.running ∧
      (s.setSlot k x).hlc.flags = s.hlc.flags ∧ mainOn (s.setSlot k x) = mainOn s ∧ (s.setSlot k x).now = s.now := by
  and_intros <;> (unfold State.setSlot; simp [mainOn, State.now])

@[simp] theorem reply_frame (k : SlotNo) (r : Reply) (s : State) :
    (reply k r s).lanes = s.lanes ∧ (reply k r s).ae = s.ae ∧ (reply k r s).psc = s.psc ∧
      (reply k r s).iqu = s.iqu ∧ (reply k r s).sm = s.sm ∧ (reply k r s).du = s.du ∧ (reply k r s).ru = s.ru ∧
      (reply k r s).lsu = s.lsu ∧ (reply k r s).jnl = s.jnl ∧ (reply k r s).sps = s.sps ∧
      (reply k r s).pins = s.pins ∧ (reply k r s).store = s.store ∧ (reply k r s).ms = s.ms ∧
      (reply k r s).drawn = s.drawn ∧ (reply k r s).pending = s.pending ∧ (reply k r s).hlc.running = s.hlc.running ∧
      (reply k r s).hlc.flags = s.hlc.flags ∧ mainOn (reply k r s) = mainOn s ∧ (reply k r s).now = s.now := by
  and_intros <;> (unfold reply; first | (simp [mainOn, State.now]; done) | (try dsimp only) <;> (repeat' split) <;> simp [mainOn, State.now])

@[simp] theorem refuse_frame (k : SlotNo) (st : Status) (s : State) :
    (refuse k st s).lanes = s.lanes ∧ (refuse k st s).ae = s.ae ∧ (refuse k st s).psc = s.psc ∧
      (refuse k st s).iqu = s.iqu ∧ (refuse k st s).sm = s.sm ∧ (refuse k st s).du = s.du ∧
      (refuse k st s).ru = s.ru ∧ (refuse k st s).lsu = s.lsu ∧ (refuse k st s).jnl = s.jnl ∧
      (refuse k st s).sps = s.sps ∧ (refuse k st s).pins = s.pins ∧ (refuse k st s).store = s.store ∧
      (refuse k st s).ms = s.ms ∧ (refuse k st s).drawn = s.drawn ∧ (refuse k st s).pending = s.pending ∧
      (refuse k st s).hlc.running = s.hlc.running ∧ (refuse k st s).hlc.flags = s.hlc.flags ∧
      mainOn (refuse k st s) = mainOn s ∧ (refuse k st s).now = s.now := by
  and_intros <;> (unfold refuse; simp [mainOn, State.now])

@[simp] theorem setProgress_frame (k : SlotNo) (p : Progress) (s : State) :
    (setProgress k p s).lanes = s.lanes ∧ (setProgress k p s).ae = s.ae ∧ (setProgress k p s).psc = s.psc ∧
      (setProgress k p s).iqu = s.iqu ∧ (setProgress k p s).sm = s.sm ∧ (setProgress k p s).du = s.du ∧
      (setProgress k p s).ru = s.ru ∧ (setProgress k p s).lsu = s.lsu ∧ (setProgress k p s).jnl = s.jnl ∧
      (setProgress k p s).sps = s.sps ∧ (setProgress k p s).pins = s.pins ∧ (setProgress k p s).store = s.store ∧
      (setProgress k p s).ms = s.ms ∧ (setProgress k p s).drawn = s.drawn ∧ (setProgress k p s).pending = s.pending ∧
      (setProgress k p s).hlc.queue = s.hlc.queue ∧ (setProgress k p s).hlc.running = s.hlc.running ∧
      (setProgress k p s).hlc.flags = s.hlc.flags ∧ mainOn (setProgress k p s) = mainOn s ∧
      (setProgress k p s).now = s.now := by
  and_intros <;> (unfold setProgress; first | (simp [mainOn, State.now]; done) | (repeat' split) <;> simp [mainOn, State.now])

@[simp] theorem takeJob_frame (job : SettingsJob) (s : State) :
    (takeJob job s).lanes = s.lanes ∧ (takeJob job s).ae = s.ae ∧ (takeJob job s).psc = s.psc ∧
      (takeJob job s).iqu = s.iqu ∧ (takeJob job s).sm = s.sm ∧ (takeJob job s).du = s.du ∧
      (takeJob job s).ru = s.ru ∧ (takeJob job s).lsu = s.lsu ∧ (takeJob job s).jnl = s.jnl ∧
      (takeJob job s).hlc = s.hlc ∧ (takeJob job s).pins = s.pins ∧ (takeJob job s).store = s.store ∧
      (takeJob job s).ms = s.ms ∧ (takeJob job s).drawn = s.drawn ∧ (takeJob job s).pending = s.pending ∧
      (takeJob job s).sps.epoch = s.sps.epoch ∧ (takeJob job s).sps.bank = s.sps.bank ∧
      (takeJob job s).sps.schedule = s.sps.schedule ∧ (takeJob job s).sps.products = s.sps.products ∧
      (takeJob job s).sps.supply = s.sps.supply ∧ (takeJob job s).sps.cause = s.sps.cause ∧
      (takeJob job s).sps.straps = s.sps.straps ∧ (takeJob job s).sps.resetHeld = s.sps.resetHeld ∧
      (takeJob job s).sps.retainedLost = s.sps.retainedLost ∧ mainOn (takeJob job s) = mainOn s ∧
      (takeJob job s).now = s.now := by
  and_intros <;> (unfold takeJob; simp [mainOn, State.now])

@[simp] theorem settingsWritten_frame (good : Bool) (s : State) :
    (settingsWritten good s).lanes = s.lanes ∧ (settingsWritten good s).ae = s.ae ∧
      (settingsWritten good s).psc = s.psc ∧ (settingsWritten good s).iqu = s.iqu ∧
      (settingsWritten good s).sm = s.sm ∧ (settingsWritten good s).du = s.du ∧ (settingsWritten good s).ru = s.ru ∧
      (settingsWritten good s).lsu = s.lsu ∧ (settingsWritten good s).jnl = s.jnl ∧
      (settingsWritten good s).pins = s.pins ∧ (settingsWritten good s).store = s.store ∧
      (settingsWritten good s).ms = s.ms ∧ (settingsWritten good s).drawn = s.drawn ∧
      (settingsWritten good s).pending = s.pending ∧ (settingsWritten good s).sps.epoch = s.sps.epoch ∧
      (settingsWritten good s).hlc.running = s.hlc.running ∧ (settingsWritten good s).sps.bank = s.sps.bank ∧
      (settingsWritten good s).sps.schedule = s.sps.schedule ∧
      (settingsWritten good s).sps.products = s.sps.products ∧ (settingsWritten good s).sps.supply = s.sps.supply ∧
      (settingsWritten good s).sps.cause = s.sps.cause ∧ (settingsWritten good s).sps.straps = s.sps.straps ∧
      (settingsWritten good s).sps.resetHeld = s.sps.resetHeld ∧
      (settingsWritten good s).sps.retainedLost = s.sps.retainedLost ∧ mainOn (settingsWritten good s) = mainOn s ∧
      (settingsWritten good s).now = s.now := by
  and_intros <;> (unfold settingsWritten; first | (simp [mainOn, State.now]; done) | (try dsimp only) <;> (repeat' split) <;> simp [mainOn, State.now])

@[simp] theorem breakOffWrite_frame (s : State) :
    (breakOffWrite s).lanes = s.lanes ∧ (breakOffWrite s).ae = s.ae ∧ (breakOffWrite s).psc = s.psc ∧
      (breakOffWrite s).iqu = s.iqu ∧ (breakOffWrite s).sm = s.sm ∧ (breakOffWrite s).du = s.du ∧
      (breakOffWrite s).ru = s.ru ∧ (breakOffWrite s).lsu = s.lsu ∧ (breakOffWrite s).jnl = s.jnl ∧
      (breakOffWrite s).hlc = s.hlc ∧ (breakOffWrite s).pins = s.pins ∧ (breakOffWrite s).store = s.store ∧
      (breakOffWrite s).ms = s.ms ∧ (breakOffWrite s).pending = s.pending ∧
      (breakOffWrite s).sps.epoch = s.sps.epoch ∧ (breakOffWrite s).sps.bank = s.sps.bank ∧
      (breakOffWrite s).sps.schedule = s.sps.schedule ∧ (breakOffWrite s).sps.products = s.sps.products ∧
      (breakOffWrite s).sps.supply = s.sps.supply ∧ (breakOffWrite s).sps.cause = s.sps.cause ∧
      (breakOffWrite s).sps.straps = s.sps.straps ∧ (breakOffWrite s).sps.resetHeld = s.sps.resetHeld ∧
      (breakOffWrite s).sps.retainedLost = s.sps.retainedLost ∧ mainOn (breakOffWrite s) = mainOn s ∧
      (breakOffWrite s).now = s.now := by
  and_intros <;> (unfold breakOffWrite; first | (simp [mainOn, State.now]; done) | (try dsimp only) <;> (repeat' split) <;> simp [mainOn, State.now])

@[simp] theorem advanceEpoch_frame (s : State) :
    (advanceEpoch s).lanes = s.lanes ∧ (advanceEpoch s).ae = s.ae ∧ (advanceEpoch s).psc = s.psc ∧
      (advanceEpoch s).iqu = s.iqu ∧ (advanceEpoch s).sm = s.sm ∧ (advanceEpoch s).du = s.du ∧
      (advanceEpoch s).ru = s.ru ∧ (advanceEpoch s).lsu = s.lsu ∧ (advanceEpoch s).hlc = s.hlc ∧
      (advanceEpoch s).pins = s.pins ∧ (advanceEpoch s).store = s.store ∧ (advanceEpoch s).ms = s.ms ∧
      (advanceEpoch s).drawn = s.drawn ∧ (advanceEpoch s).pending = s.pending ∧
      (advanceEpoch s).jnl.records = s.jnl.records ∧ (advanceEpoch s).jnl.credits = s.jnl.credits ∧
      (advanceEpoch s).sps.bank = s.sps.bank ∧ (advanceEpoch s).sps.schedule = s.sps.schedule ∧
      (advanceEpoch s).sps.products = s.sps.products ∧ (advanceEpoch s).sps.supply = s.sps.supply ∧
      (advanceEpoch s).sps.cause = s.sps.cause ∧ (advanceEpoch s).sps.straps = s.sps.straps ∧
      (advanceEpoch s).sps.resetHeld = s.sps.resetHeld ∧ (advanceEpoch s).sps.retainedLost = s.sps.retainedLost ∧
      mainOn (advanceEpoch s) = mainOn s ∧ (advanceEpoch s).now = s.now := by
  and_intros <;> (unfold advanceEpoch; first | (simp [mainOn, State.now]; done) | (try dsimp only) <;> (repeat' split) <;> simp [mainOn, State.now])

@[simp] theorem readyStamp_frame (s : State) :
    (readyStamp s).lanes = s.lanes ∧ (readyStamp s).ae = s.ae ∧ (readyStamp s).psc = s.psc ∧
      (readyStamp s).iqu = s.iqu ∧ (readyStamp s).sm = s.sm ∧ (readyStamp s).du = s.du ∧ (readyStamp s).ru = s.ru ∧
      (readyStamp s).lsu = s.lsu ∧ (readyStamp s).hlc = s.hlc ∧ (readyStamp s).pins = s.pins ∧
      (readyStamp s).store = s.store ∧ (readyStamp s).ms = s.ms ∧ (readyStamp s).drawn = s.drawn ∧
      (readyStamp s).pending = s.pending ∧ (readyStamp s).jnl.records = s.jnl.records ∧
      (readyStamp s).jnl.credits = s.jnl.credits ∧ (readyStamp s).sps.bank = s.sps.bank ∧
      (readyStamp s).sps.schedule = s.sps.schedule ∧ (readyStamp s).sps.products = s.sps.products ∧
      (readyStamp s).sps.supply = s.sps.supply ∧ (readyStamp s).sps.cause = s.sps.cause ∧
      (readyStamp s).sps.straps = s.sps.straps ∧ (readyStamp s).sps.resetHeld = s.sps.resetHeld ∧
      (readyStamp s).sps.retainedLost = s.sps.retainedLost ∧ mainOn (readyStamp s) = mainOn s ∧
      (readyStamp s).now = s.now := by
  and_intros <;> (unfold readyStamp; first | (simp [mainOn, State.now]; done) | (repeat' split) <;> simp [mainOn, State.now])

@[simp] theorem appendRecord_frame (time : Time) (body : JBody) (s : State) :
    (appendRecord time body s).lanes = s.lanes ∧ (appendRecord time body s).ae = s.ae ∧
      (appendRecord time body s).psc = s.psc ∧ (appendRecord time body s).iqu = s.iqu ∧
      (appendRecord time body s).sm = s.sm ∧ (appendRecord time body s).du = s.du ∧
      (appendRecord time body s).ru = s.ru ∧ (appendRecord time body s).lsu = s.lsu ∧
      (appendRecord time body s).pins = s.pins ∧ (appendRecord time body s).store = s.store ∧
      (appendRecord time body s).ms = s.ms ∧ (appendRecord time body s).drawn = s.drawn ∧
      (appendRecord time body s).pending = s.pending ∧ (appendRecord time body s).jnl.credits = s.jnl.credits ∧
      (appendRecord time body s).hlc.slots = s.hlc.slots ∧ (appendRecord time body s).hlc.running = s.hlc.running ∧
      (appendRecord time body s).sps.bank = s.sps.bank ∧ (appendRecord time body s).sps.schedule = s.sps.schedule ∧
      (appendRecord time body s).sps.products = s.sps.products ∧
      (appendRecord time body s).sps.supply = s.sps.supply ∧ (appendRecord time body s).sps.cause = s.sps.cause ∧
      (appendRecord time body s).sps.straps = s.sps.straps ∧
      (appendRecord time body s).sps.resetHeld = s.sps.resetHeld ∧
      (appendRecord time body s).sps.retainedLost = s.sps.retainedLost ∧
      mainOn (appendRecord time body s) = mainOn s ∧ (appendRecord time body s).now = s.now := by
  and_intros <;> (unfold appendRecord; first | (simp [mainOn, State.now]; done) | (try dsimp only) <;> (repeat' split) <;> simp [mainOn, State.now])

@[simp] theorem writeReserved_frame (time : Time) (body : JBody) (s : State) :
    (writeReserved time body s).lanes = s.lanes ∧ (writeReserved time body s).ae = s.ae ∧
      (writeReserved time body s).psc = s.psc ∧ (writeReserved time body s).iqu = s.iqu ∧
      (writeReserved time body s).sm = s.sm ∧ (writeReserved time body s).du = s.du ∧
      (writeReserved time body s).ru = s.ru ∧ (writeReserved time body s).lsu = s.lsu ∧
      (writeReserved time body s).pins = s.pins ∧ (writeReserved time body s).store = s.store ∧
      (writeReserved time body s).ms = s.ms ∧ (writeReserved time body s).drawn = s.drawn ∧
      (writeReserved time body s).pending = s.pending ∧ (writeReserved time body s).hlc.slots = s.hlc.slots ∧
      (writeReserved time body s).hlc.running = s.hlc.running ∧ (writeReserved time body s).sps.bank = s.sps.bank ∧
      (writeReserved time body s).sps.schedule = s.sps.schedule ∧
      (writeReserved time body s).sps.products = s.sps.products ∧
      (writeReserved time body s).sps.supply = s.sps.supply ∧ (writeReserved time body s).sps.cause = s.sps.cause ∧
      (writeReserved time body s).sps.straps = s.sps.straps ∧
      (writeReserved time body s).sps.resetHeld = s.sps.resetHeld ∧
      (writeReserved time body s).sps.retainedLost = s.sps.retainedLost ∧
      mainOn (writeReserved time body s) = mainOn s ∧ (writeReserved time body s).now = s.now := by
  and_intros <;> (unfold writeReserved; simp [mainOn, State.now])

@[simp] theorem writeFree_frame (time : Time) (body : JBody) (s : State) :
    (writeFree time body s).lanes = s.lanes ∧ (writeFree time body s).ae = s.ae ∧
      (writeFree time body s).psc = s.psc ∧ (writeFree time body s).iqu = s.iqu ∧ (writeFree time body s).sm = s.sm ∧
      (writeFree time body s).du = s.du ∧ (writeFree time body s).ru = s.ru ∧ (writeFree time body s).lsu = s.lsu ∧
      (writeFree time body s).pins = s.pins ∧ (writeFree time body s).store = s.store ∧
      (writeFree time body s).ms = s.ms ∧ (writeFree time body s).drawn = s.drawn ∧
      (writeFree time body s).pending = s.pending ∧ (writeFree time body s).jnl.credits = s.jnl.credits ∧
      (writeFree time body s).hlc.slots = s.hlc.slots ∧ (writeFree time body s).hlc.running = s.hlc.running ∧
      (writeFree time body s).sps.bank = s.sps.bank ∧ (writeFree time body s).sps.schedule = s.sps.schedule ∧
      (writeFree time body s).sps.products = s.sps.products ∧ (writeFree time body s).sps.supply = s.sps.supply ∧
      (writeFree time body s).sps.cause = s.sps.cause ∧ (writeFree time body s).sps.straps = s.sps.straps ∧
      (writeFree time body s).sps.resetHeld = s.sps.resetHeld ∧
      (writeFree time body s).sps.retainedLost = s.sps.retainedLost ∧ mainOn (writeFree time body s) = mainOn s ∧
      (writeFree time body s).now = s.now := by
  and_intros <;> (unfold writeFree; first | (simp [mainOn, State.now]; done) | (repeat' split) <;> simp [mainOn, State.now])

@[simp] theorem claimJournal_frame (s : State) :
    (claimJournal s).lanes = s.lanes ∧ (claimJournal s).ae = s.ae ∧ (claimJournal s).psc = s.psc ∧
      (claimJournal s).iqu = s.iqu ∧ (claimJournal s).sm = s.sm ∧ (claimJournal s).du = s.du ∧
      (claimJournal s).ru = s.ru ∧ (claimJournal s).lsu = s.lsu ∧ (claimJournal s).hlc = s.hlc ∧
      (claimJournal s).sps = s.sps ∧ (claimJournal s).pins = s.pins ∧ (claimJournal s).store = s.store ∧
      (claimJournal s).ms = s.ms ∧ (claimJournal s).drawn = s.drawn ∧ (claimJournal s).pending = s.pending ∧
      (claimJournal s).jnl.records = s.jnl.records ∧ (claimJournal s).jnl.nextSeq = s.jnl.nextSeq ∧
      mainOn (claimJournal s) = mainOn s ∧ (claimJournal s).now = s.now := by
  and_intros <;> (unfold claimJournal; simp [mainOn, State.now])

@[simp] theorem releaseJournal_frame (s : State) :
    (releaseJournal s).lanes = s.lanes ∧ (releaseJournal s).ae = s.ae ∧ (releaseJournal s).psc = s.psc ∧
      (releaseJournal s).iqu = s.iqu ∧ (releaseJournal s).sm = s.sm ∧ (releaseJournal s).du = s.du ∧
      (releaseJournal s).ru = s.ru ∧ (releaseJournal s).lsu = s.lsu ∧ (releaseJournal s).hlc = s.hlc ∧
      (releaseJournal s).sps = s.sps ∧ (releaseJournal s).pins = s.pins ∧ (releaseJournal s).store = s.store ∧
      (releaseJournal s).ms = s.ms ∧ (releaseJournal s).drawn = s.drawn ∧ (releaseJournal s).pending = s.pending ∧
      (releaseJournal s).jnl.records = s.jnl.records ∧ (releaseJournal s).jnl.nextSeq = s.jnl.nextSeq ∧
      mainOn (releaseJournal s) = mainOn s ∧ (releaseJournal s).now = s.now := by
  and_intros <;> (unfold releaseJournal; simp [mainOn, State.now])

end Sys2Proof.Machine
end

