-- ==== Sys2Proof/Laws/FrameStore.lean ====
section
/-! SUPPORT. Frames of the operations of the pass store controller: what each leaves as it was, one simp lemma an operation. -/

namespace Sys2Proof.Machine
-- one theorem at a time: the package as one text elaborates within the memory limit
set_option Elab.async false
open Sys2Proof.Config

@[simp] theorem enqueue_frame (p : Posting) (s : State) :
    (enqueue p s).lanes = s.lanes ∧ (enqueue p s).ae = s.ae ∧ (enqueue p s).iqu = s.iqu ∧ (enqueue p s).sm = s.sm ∧
      (enqueue p s).du = s.du ∧ (enqueue p s).ru = s.ru ∧ (enqueue p s).lsu = s.lsu ∧ (enqueue p s).hlc = s.hlc ∧
      (enqueue p s).sps = s.sps ∧ (enqueue p s).pins = s.pins ∧ (enqueue p s).store = s.store ∧
      (enqueue p s).ms = s.ms ∧ (enqueue p s).drawn = s.drawn ∧ (enqueue p s).pending = s.pending ∧
      (enqueue p s).jnl.records = s.jnl.records ∧ (enqueue p s).jnl.nextSeq = s.jnl.nextSeq ∧
      (enqueue p s).jnl.credits = s.jnl.credits ∧ (enqueue p s).psc.credits = s.psc.credits ∧
      (enqueue p s).psc.state = s.psc.state ∧ mainOn (enqueue p s) = mainOn s ∧ (enqueue p s).now = s.now := by
  and_intros <;> (unfold enqueue; first | (simp [mainOn, State.now]; done) | (try dsimp only) <;> (repeat' split) <;> simp [mainOn, State.now])

@[simp] theorem claimPosting_frame (s : State) :
    (claimPosting s).lanes = s.lanes ∧ (claimPosting s).ae = s.ae ∧ (claimPosting s).iqu = s.iqu ∧
      (claimPosting s).sm = s.sm ∧ (claimPosting s).du = s.du ∧ (claimPosting s).ru = s.ru ∧
      (claimPosting s).lsu = s.lsu ∧ (claimPosting s).jnl = s.jnl ∧ (claimPosting s).hlc = s.hlc ∧
      (claimPosting s).sps = s.sps ∧ (claimPosting s).pins = s.pins ∧ (claimPosting s).store = s.store ∧
      (claimPosting s).ms = s.ms ∧ (claimPosting s).drawn = s.drawn ∧ (claimPosting s).pending = s.pending ∧
      (claimPosting s).psc.postings = s.psc.postings ∧ (claimPosting s).psc.state = s.psc.state ∧
      mainOn (claimPosting s) = mainOn s ∧ (claimPosting s).now = s.now := by
  and_intros <;> (unfold claimPosting; simp [mainOn, State.now])

@[simp] theorem dropPostingCredit_frame (s : State) :
    (dropPostingCredit s).lanes = s.lanes ∧ (dropPostingCredit s).ae = s.ae ∧ (dropPostingCredit s).iqu = s.iqu ∧
      (dropPostingCredit s).sm = s.sm ∧ (dropPostingCredit s).du = s.du ∧ (dropPostingCredit s).ru = s.ru ∧
      (dropPostingCredit s).lsu = s.lsu ∧ (dropPostingCredit s).jnl = s.jnl ∧ (dropPostingCredit s).hlc = s.hlc ∧
      (dropPostingCredit s).sps = s.sps ∧ (dropPostingCredit s).pins = s.pins ∧
      (dropPostingCredit s).store = s.store ∧ (dropPostingCredit s).ms = s.ms ∧
      (dropPostingCredit s).drawn = s.drawn ∧ (dropPostingCredit s).pending = s.pending ∧
      (dropPostingCredit s).psc.postings = s.psc.postings ∧ (dropPostingCredit s).psc.state = s.psc.state ∧
      mainOn (dropPostingCredit s) = mainOn s ∧ (dropPostingCredit s).now = s.now := by
  and_intros <;> (unfold dropPostingCredit; simp [mainOn, State.now])

@[simp] theorem enqueueReserved_frame (p : Posting) (s : State) :
    (enqueueReserved p s).lanes = s.lanes ∧ (enqueueReserved p s).ae = s.ae ∧ (enqueueReserved p s).iqu = s.iqu ∧
      (enqueueReserved p s).sm = s.sm ∧ (enqueueReserved p s).du = s.du ∧ (enqueueReserved p s).ru = s.ru ∧
      (enqueueReserved p s).lsu = s.lsu ∧ (enqueueReserved p s).hlc = s.hlc ∧ (enqueueReserved p s).sps = s.sps ∧
      (enqueueReserved p s).pins = s.pins ∧ (enqueueReserved p s).store = s.store ∧ (enqueueReserved p s).ms = s.ms ∧
      (enqueueReserved p s).drawn = s.drawn ∧ (enqueueReserved p s).pending = s.pending ∧
      (enqueueReserved p s).jnl.records = s.jnl.records ∧ (enqueueReserved p s).jnl.nextSeq = s.jnl.nextSeq ∧
      (enqueueReserved p s).jnl.credits = s.jnl.credits ∧ (enqueueReserved p s).psc.state = s.psc.state ∧
      mainOn (enqueueReserved p s) = mainOn s ∧ (enqueueReserved p s).now = s.now := by
  and_intros <;> (unfold enqueueReserved; simp [mainOn, State.now])

@[simp] theorem removeHead_frame (s : State) :
    (removeHead s).lanes = s.lanes ∧ (removeHead s).ae = s.ae ∧ (removeHead s).iqu = s.iqu ∧
      (removeHead s).sm = s.sm ∧ (removeHead s).du = s.du ∧ (removeHead s).ru = s.ru ∧ (removeHead s).lsu = s.lsu ∧
      (removeHead s).hlc = s.hlc ∧ (removeHead s).sps = s.sps ∧ (removeHead s).pins = s.pins ∧
      (removeHead s).store = s.store ∧ (removeHead s).ms = s.ms ∧ (removeHead s).drawn = s.drawn ∧
      (removeHead s).pending = s.pending ∧ (removeHead s).jnl.records = s.jnl.records ∧
      (removeHead s).jnl.nextSeq = s.jnl.nextSeq ∧ (removeHead s).jnl.credits = s.jnl.credits ∧
      (removeHead s).psc.credits = s.psc.credits ∧ (removeHead s).psc.state = s.psc.state ∧
      mainOn (removeHead s) = mainOn s ∧ (removeHead s).now = s.now := by
  and_intros <;> (unfold removeHead; first | (simp [mainOn, State.now]; done) | (try dsimp only) <;> (repeat' split) <;> simp [mainOn, State.now])

@[simp] theorem postingLost_frame (p : Posting) (s : State) :
    (postingLost p s).lanes = s.lanes ∧ (postingLost p s).ae = s.ae ∧ (postingLost p s).psc = s.psc ∧
      (postingLost p s).iqu = s.iqu ∧ (postingLost p s).sm = s.sm ∧ (postingLost p s).du = s.du ∧
      (postingLost p s).ru = s.ru ∧ (postingLost p s).lsu = s.lsu ∧ (postingLost p s).pins = s.pins ∧
      (postingLost p s).store = s.store ∧ (postingLost p s).ms = s.ms ∧ (postingLost p s).drawn = s.drawn ∧
      (postingLost p s).pending = s.pending ∧ (postingLost p s).jnl.credits = s.jnl.credits ∧
      (postingLost p s).hlc.slots = s.hlc.slots ∧ (postingLost p s).hlc.running = s.hlc.running ∧
      (postingLost p s).sps.bank = s.sps.bank ∧ (postingLost p s).sps.schedule = s.sps.schedule ∧
      (postingLost p s).sps.products = s.sps.products ∧ (postingLost p s).sps.supply = s.sps.supply ∧
      (postingLost p s).sps.cause = s.sps.cause ∧ (postingLost p s).sps.straps = s.sps.straps ∧
      (postingLost p s).sps.resetHeld = s.sps.resetHeld ∧ (postingLost p s).sps.retainedLost = s.sps.retainedLost ∧
      mainOn (postingLost p s) = mainOn s ∧ (postingLost p s).now = s.now := by
  and_intros <;> (unfold postingLost; simp [mainOn, State.now])

@[simp] theorem queueLookup_frame (r : Requester) (pass : Nat) (occupancy : Bool) (s : State) :
    (queueLookup r pass occupancy s).lanes = s.lanes ∧ (queueLookup r pass occupancy s).ae = s.ae ∧
      (queueLookup r pass occupancy s).iqu = s.iqu ∧ (queueLookup r pass occupancy s).sm = s.sm ∧
      (queueLookup r pass occupancy s).du = s.du ∧ (queueLookup r pass occupancy s).ru = s.ru ∧
      (queueLookup r pass occupancy s).lsu = s.lsu ∧ (queueLookup r pass occupancy s).jnl = s.jnl ∧
      (queueLookup r pass occupancy s).hlc = s.hlc ∧ (queueLookup r pass occupancy s).sps = s.sps ∧
      (queueLookup r pass occupancy s).pins = s.pins ∧ (queueLookup r pass occupancy s).store = s.store ∧
      (queueLookup r pass occupancy s).ms = s.ms ∧ (queueLookup r pass occupancy s).drawn = s.drawn ∧
      (queueLookup r pass occupancy s).pending = s.pending ∧
      (queueLookup r pass occupancy s).psc.postings = s.psc.postings ∧
      (queueLookup r pass occupancy s).psc.credits = s.psc.credits ∧
      (queueLookup r pass occupancy s).psc.state = s.psc.state ∧ mainOn (queueLookup r pass occupancy s) = mainOn s ∧
      (queueLookup r pass occupancy s).now = s.now := by
  and_intros <;> (unfold queueLookup; simp [mainOn, State.now])

@[simp] theorem removeLaneLookup_frame (n : LaneNo) (s : State) :
    (removeLaneLookup n s).lanes = s.lanes ∧ (removeLaneLookup n s).ae = s.ae ∧
      (removeLaneLookup n s).iqu = s.iqu ∧ (removeLaneLookup n s).sm = s.sm ∧ (removeLaneLookup n s).du = s.du ∧
      (removeLaneLookup n s).ru = s.ru ∧ (removeLaneLookup n s).lsu = s.lsu ∧ (removeLaneLookup n s).jnl = s.jnl ∧
      (removeLaneLookup n s).hlc = s.hlc ∧ (removeLaneLookup n s).sps = s.sps ∧
      (removeLaneLookup n s).pins = s.pins ∧ (removeLaneLookup n s).store = s.store ∧
      (removeLaneLookup n s).ms = s.ms ∧ (removeLaneLookup n s).drawn = s.drawn ∧
      (removeLaneLookup n s).pending = s.pending ∧ (removeLaneLookup n s).psc.postings = s.psc.postings ∧
      (removeLaneLookup n s).psc.credits = s.psc.credits ∧ (removeLaneLookup n s).psc.state = s.psc.state ∧
      mainOn (removeLaneLookup n s) = mainOn s ∧ (removeLaneLookup n s).now = s.now := by
  and_intros <;> (unfold removeLaneLookup; simp [mainOn, State.now])

@[simp] theorem issueOp_frame (op : StoreOp) (s : State) :
    (issueOp op s).lanes = s.lanes ∧ (issueOp op s).ae = s.ae ∧ (issueOp op s).iqu = s.iqu ∧
      (issueOp op s).sm = s.sm ∧ (issueOp op s).du = s.du ∧ (issueOp op s).ru = s.ru ∧ (issueOp op s).lsu = s.lsu ∧
      (issueOp op s).jnl = s.jnl ∧ (issueOp op s).hlc = s.hlc ∧ (issueOp op s).sps = s.sps ∧
      (issueOp op s).pins = s.pins ∧ (issueOp op s).store = s.store ∧ (issueOp op s).ms = s.ms ∧
      (issueOp op s).drawn = s.drawn ∧ (issueOp op s).pending = s.pending ∧
      (issueOp op s).psc.postings = s.psc.postings ∧ (issueOp op s).psc.credits = s.psc.credits ∧
      (issueOp op s).psc.state = s.psc.state ∧ mainOn (issueOp op s) = mainOn s ∧ (issueOp op s).now = s.now := by
  and_intros <;> (unfold issueOp; simp [mainOn, State.now])

@[simp] theorem endOp_frame (s : State) :
    (endOp s).lanes = s.lanes ∧ (endOp s).ae = s.ae ∧ (endOp s).iqu = s.iqu ∧ (endOp s).sm = s.sm ∧
      (endOp s).du = s.du ∧ (endOp s).ru = s.ru ∧ (endOp s).lsu = s.lsu ∧ (endOp s).jnl = s.jnl ∧
      (endOp s).hlc = s.hlc ∧ (endOp s).sps = s.sps ∧ (endOp s).pins = s.pins ∧ (endOp s).store = s.store ∧
      (endOp s).ms = s.ms ∧ (endOp s).drawn = s.drawn ∧ (endOp s).pending = s.pending ∧
      (endOp s).psc.postings = s.psc.postings ∧ (endOp s).psc.credits = s.psc.credits ∧
      (endOp s).psc.state = s.psc.state ∧ mainOn (endOp s) = mainOn s ∧ (endOp s).now = s.now := by
  and_intros <;> (unfold endOp; simp [mainOn, State.now])

@[simp] theorem noteCommitInFlight_frame (r : Requester) (s : State) :
    (noteCommitInFlight r s).lanes = s.lanes ∧ (noteCommitInFlight r s).ae = s.ae ∧
      (noteCommitInFlight r s).psc = s.psc ∧ (noteCommitInFlight r s).iqu = s.iqu ∧
      (noteCommitInFlight r s).sm = s.sm ∧ (noteCommitInFlight r s).du = s.du ∧
      (noteCommitInFlight r s).lsu = s.lsu ∧ (noteCommitInFlight r s).jnl = s.jnl ∧
      (noteCommitInFlight r s).hlc = s.hlc ∧ (noteCommitInFlight r s).sps = s.sps ∧
      (noteCommitInFlight r s).pins = s.pins ∧ (noteCommitInFlight r s).store = s.store ∧
      (noteCommitInFlight r s).ms = s.ms ∧ (noteCommitInFlight r s).drawn = s.drawn ∧
      (noteCommitInFlight r s).pending = s.pending ∧ mainOn (noteCommitInFlight r s) = mainOn s ∧
      (noteCommitInFlight r s).now = s.now := by
  and_intros <;> (unfold noteCommitInFlight; first | (simp [mainOn, State.now]; done) | (repeat' split) <;> simp [mainOn, State.now])

@[simp] theorem startLookup_frame (l : Lookup) (s : State) :
    (startLookup l s).lanes = s.lanes ∧ (startLookup l s).ae = s.ae ∧ (startLookup l s).iqu = s.iqu ∧
      (startLookup l s).sm = s.sm ∧ (startLookup l s).du = s.du ∧ (startLookup l s).lsu = s.lsu ∧
      (startLookup l s).jnl = s.jnl ∧ (startLookup l s).hlc = s.hlc ∧ (startLookup l s).sps = s.sps ∧
      (startLookup l s).pins = s.pins ∧ (startLookup l s).store = s.store ∧ (startLookup l s).ms = s.ms ∧
      (startLookup l s).drawn = s.drawn ∧ (startLookup l s).pending = s.pending ∧
      (startLookup l s).psc.postings = s.psc.postings ∧ (startLookup l s).psc.credits = s.psc.credits ∧
      (startLookup l s).psc.state = s.psc.state ∧ mainOn (startLookup l s) = mainOn s ∧ (startLookup l s).now = s.now := by
  and_intros <;> (unfold startLookup; simp [mainOn, State.now])

@[simp] theorem selectNext_frame (s : State) :
    (selectNext s).lanes = s.lanes ∧ (selectNext s).ae = s.ae ∧ (selectNext s).iqu = s.iqu ∧
      (selectNext s).sm = s.sm ∧ (selectNext s).du = s.du ∧ (selectNext s).lsu = s.lsu ∧ (selectNext s).jnl = s.jnl ∧
      (selectNext s).hlc = s.hlc ∧ (selectNext s).sps = s.sps ∧ (selectNext s).pins = s.pins ∧
      (selectNext s).store = s.store ∧ (selectNext s).ms = s.ms ∧ (selectNext s).drawn = s.drawn ∧
      (selectNext s).pending = s.pending ∧ (selectNext s).psc.postings = s.psc.postings ∧
      (selectNext s).psc.credits = s.psc.credits ∧ (selectNext s).psc.state = s.psc.state ∧
      mainOn (selectNext s) = mainOn s ∧ (selectNext s).now = s.now := by
  and_intros <;> (unfold selectNext; first | (simp [mainOn, State.now]; done) | (try dsimp only) <;> (repeat' split) <;> simp [mainOn, State.now])

@[simp] theorem writeStore_frame (address : Nat) (bytes : List Byte) (s : State) :
    (writeStore address bytes s).lanes = s.lanes ∧ (writeStore address bytes s).ae = s.ae ∧
      (writeStore address bytes s).psc = s.psc ∧ (writeStore address bytes s).iqu = s.iqu ∧
      (writeStore address bytes s).sm = s.sm ∧ (writeStore address bytes s).du = s.du ∧
      (writeStore address bytes s).ru = s.ru ∧ (writeStore address bytes s).lsu = s.lsu ∧
      (writeStore address bytes s).jnl = s.jnl ∧ (writeStore address bytes s).hlc = s.hlc ∧
      (writeStore address bytes s).sps = s.sps ∧ (writeStore address bytes s).pins = s.pins ∧
      (writeStore address bytes s).ms = s.ms ∧ (writeStore address bytes s).drawn = s.drawn ∧
      (writeStore address bytes s).pending = s.pending ∧ mainOn (writeStore address bytes s) = mainOn s ∧
      (writeStore address bytes s).now = s.now := by
  and_intros <;> (unfold writeStore; simp [mainOn, State.now])

@[simp] theorem deviceWrite_frame (op : StoreOp) (formatNo : Nat) (s : State) :
    (deviceWrite op formatNo s).lanes = s.lanes ∧ (deviceWrite op formatNo s).ae = s.ae ∧
      (deviceWrite op formatNo s).psc = s.psc ∧ (deviceWrite op formatNo s).iqu = s.iqu ∧
      (deviceWrite op formatNo s).sm = s.sm ∧ (deviceWrite op formatNo s).du = s.du ∧
      (deviceWrite op formatNo s).ru = s.ru ∧ (deviceWrite op formatNo s).lsu = s.lsu ∧
      (deviceWrite op formatNo s).jnl = s.jnl ∧ (deviceWrite op formatNo s).hlc = s.hlc ∧
      (deviceWrite op formatNo s).sps = s.sps ∧ (deviceWrite op formatNo s).pins = s.pins ∧
      (deviceWrite op formatNo s).ms = s.ms ∧ (deviceWrite op formatNo s).drawn = s.drawn ∧
      (deviceWrite op formatNo s).pending = s.pending ∧ mainOn (deviceWrite op formatNo s) = mainOn s ∧
      (deviceWrite op formatNo s).now = s.now := by
  and_intros <;> (unfold deviceWrite; first | (simp [mainOn, State.now]; done) | (repeat' split) <;> simp [mainOn, State.now])

@[simp] theorem perhapsWritten_frame (op : StoreOp) (s : State) :
    (perhapsWritten op s).lanes = s.lanes ∧ (perhapsWritten op s).ae = s.ae ∧ (perhapsWritten op s).psc = s.psc ∧
      (perhapsWritten op s).iqu = s.iqu ∧ (perhapsWritten op s).sm = s.sm ∧ (perhapsWritten op s).du = s.du ∧
      (perhapsWritten op s).ru = s.ru ∧ (perhapsWritten op s).lsu = s.lsu ∧ (perhapsWritten op s).jnl = s.jnl ∧
      (perhapsWritten op s).hlc = s.hlc ∧ (perhapsWritten op s).sps = s.sps ∧ (perhapsWritten op s).pins = s.pins ∧
      (perhapsWritten op s).ms = s.ms ∧ (perhapsWritten op s).pending = s.pending ∧
      mainOn (perhapsWritten op s) = mainOn s ∧ (perhapsWritten op s).now = s.now := by
  and_intros <;> (unfold perhapsWritten; first | (simp [mainOn, State.now]; done) | (repeat' split) <;> simp [mainOn, State.now])

end Sys2Proof.Machine
end

