-- ==== Sys2Proof/Laws/FrameMeter.lean ====
section
/-! SUPPORT. Frames of the operations of the seat meter and the active pass set: what each leaves as it was, one simp lemma an operation. -/

namespace Sys2Proof.Machine
-- one theorem at a time: the package as one text elaborates within the memory limit
set_option Elab.async false
open Sys2Proof.Config

@[simp] theorem modLane_frame (n : LaneNo) (f : Lane → Lane) (s : State) :
    (modLane n f s).ae = s.ae ∧ (modLane n f s).psc = s.psc ∧ (modLane n f s).iqu = s.iqu ∧
      (modLane n f s).sm = s.sm ∧ (modLane n f s).du = s.du ∧ (modLane n f s).ru = s.ru ∧
      (modLane n f s).lsu = s.lsu ∧ (modLane n f s).jnl = s.jnl ∧ (modLane n f s).hlc = s.hlc ∧
      (modLane n f s).sps = s.sps ∧ (modLane n f s).pins = s.pins ∧ (modLane n f s).store = s.store ∧
      (modLane n f s).ms = s.ms ∧ (modLane n f s).drawn = s.drawn ∧ (modLane n f s).pending = s.pending ∧
      mainOn (modLane n f s) = mainOn s ∧ (modLane n f s).now = s.now := by
  and_intros <;> (unfold modLane; simp [mainOn, State.now])

@[simp] theorem provisionalAppend_frame (pass : Nat) (s : State) :
    (provisionalAppend pass s).lanes = s.lanes ∧ (provisionalAppend pass s).ae = s.ae ∧
      (provisionalAppend pass s).psc = s.psc ∧ (provisionalAppend pass s).sm = s.sm ∧
      (provisionalAppend pass s).du = s.du ∧ (provisionalAppend pass s).ru = s.ru ∧
      (provisionalAppend pass s).lsu = s.lsu ∧ (provisionalAppend pass s).jnl = s.jnl ∧
      (provisionalAppend pass s).hlc = s.hlc ∧ (provisionalAppend pass s).sps = s.sps ∧
      (provisionalAppend pass s).pins = s.pins ∧ (provisionalAppend pass s).store = s.store ∧
      (provisionalAppend pass s).ms = s.ms ∧ (provisionalAppend pass s).drawn = s.drawn ∧
      (provisionalAppend pass s).pending = s.pending ∧ (provisionalAppend pass s).iqu.link = s.iqu.link ∧
      mainOn (provisionalAppend pass s) = mainOn s ∧ (provisionalAppend pass s).now = s.now := by
  and_intros <;> (unfold provisionalAppend; simp [mainOn, State.now])

@[simp] theorem grantLane_frame (e : SeatWait) (s : State) :
    (grantLane e s).ae = s.ae ∧ (grantLane e s).du = s.du ∧ (grantLane e s).ru = s.ru ∧
      (grantLane e s).lsu = s.lsu ∧ (grantLane e s).hlc = s.hlc ∧ (grantLane e s).sps = s.sps ∧
      (grantLane e s).pins = s.pins ∧ (grantLane e s).store = s.store ∧ (grantLane e s).ms = s.ms ∧
      (grantLane e s).drawn = s.drawn ∧ (grantLane e s).pending = s.pending ∧
      (grantLane e s).jnl.records = s.jnl.records ∧ (grantLane e s).jnl.nextSeq = s.jnl.nextSeq ∧
      (grantLane e s).psc.postings = s.psc.postings ∧ (grantLane e s).psc.state = s.psc.state ∧
      (grantLane e s).iqu.link = s.iqu.link ∧ mainOn (grantLane e s) = mainOn s ∧ (grantLane e s).now = s.now := by
  and_intros <;> (unfold grantLane; first | (simp [mainOn, State.now]; done) | (try dsimp only) <;> (repeat' split) <;> simp [mainOn, State.now])

@[simp] theorem grantStep_frame (e : SeatWait) (s : State) :
    (grantStep e s).2.ae = s.ae ∧ (grantStep e s).2.du = s.du ∧ (grantStep e s).2.ru = s.ru ∧
      (grantStep e s).2.lsu = s.lsu ∧ (grantStep e s).2.sps = s.sps ∧ (grantStep e s).2.pins = s.pins ∧
      (grantStep e s).2.store = s.store ∧ (grantStep e s).2.ms = s.ms ∧ (grantStep e s).2.drawn = s.drawn ∧
      (grantStep e s).2.pending = s.pending ∧ (grantStep e s).2.jnl.records = s.jnl.records ∧
      (grantStep e s).2.jnl.nextSeq = s.jnl.nextSeq ∧ (grantStep e s).2.psc.postings = s.psc.postings ∧
      (grantStep e s).2.psc.state = s.psc.state ∧ (grantStep e s).2.hlc.slots = s.hlc.slots ∧
      (grantStep e s).2.hlc.running = s.hlc.running ∧ (grantStep e s).2.iqu.link = s.iqu.link ∧
      mainOn (grantStep e s).2 = mainOn s ∧ (grantStep e s).2.now = s.now := by
  and_intros <;> (unfold grantStep; first | (simp [mainOn, State.now]; done) | (repeat' split) <;> simp [mainOn, State.now])

@[simp] theorem offerAll_frame (es : List SeatWait) (s : State) :
    (offerAll es s).ae = s.ae ∧ (offerAll es s).du = s.du ∧ (offerAll es s).ru = s.ru ∧
      (offerAll es s).lsu = s.lsu ∧ (offerAll es s).sps = s.sps ∧ (offerAll es s).pins = s.pins ∧
      (offerAll es s).store = s.store ∧ (offerAll es s).ms = s.ms ∧ (offerAll es s).drawn = s.drawn ∧
      (offerAll es s).pending = s.pending ∧ (offerAll es s).jnl.records = s.jnl.records ∧
      (offerAll es s).jnl.nextSeq = s.jnl.nextSeq ∧ (offerAll es s).psc.postings = s.psc.postings ∧
      (offerAll es s).psc.state = s.psc.state ∧ (offerAll es s).hlc.slots = s.hlc.slots ∧
      (offerAll es s).hlc.running = s.hlc.running ∧ (offerAll es s).iqu.link = s.iqu.link ∧
      mainOn (offerAll es s) = mainOn s ∧ (offerAll es s).now = s.now := by
  induction es generalizing s with
  | nil => simp [offerAll]
  | cons e es ih =>
    have h := grantStep_frame e s
    simp only [offerAll]
    split
    · split <;> simp_all
    · simp

@[simp] theorem grantPass_frame (s : State) :
    (grantPass s).ae = s.ae ∧ (grantPass s).du = s.du ∧ (grantPass s).ru = s.ru ∧ (grantPass s).lsu = s.lsu ∧
      (grantPass s).sps = s.sps ∧ (grantPass s).pins = s.pins ∧ (grantPass s).store = s.store ∧
      (grantPass s).ms = s.ms ∧ (grantPass s).drawn = s.drawn ∧ (grantPass s).pending = s.pending ∧
      (grantPass s).jnl.records = s.jnl.records ∧ (grantPass s).jnl.nextSeq = s.jnl.nextSeq ∧
      (grantPass s).psc.postings = s.psc.postings ∧ (grantPass s).psc.state = s.psc.state ∧
      (grantPass s).hlc.slots = s.hlc.slots ∧ (grantPass s).hlc.running = s.hlc.running ∧
      (grantPass s).iqu.link = s.iqu.link ∧ mainOn (grantPass s) = mainOn s ∧ (grantPass s).now = s.now := by
  and_intros <;> (unfold grantPass; simp [mainOn, State.now])

/-! ### What a grant pass leaves at the seat meter, and of a lane that does not wait -/


theorem grantLane_sm (e : SeatWait) (s : State) :
    (grantLane e s).sm = { s.sm with window := (grantLane e s).sm.window, waiting := (grantLane e s).sm.waiting } := by
  unfold grantLane
  split
  · rfl
  · simp only []
    split <;> split <;> simp [modLane, claimJournal, claimPosting, provisionalAppend]

theorem grantStep_sm (e : SeatWait) (s : State) :
    (grantStep e s).2.sm = { s.sm with window := (grantStep e s).2.sm.window, waiting := (grantStep e s).2.sm.waiting } := by
  unfold grantStep
  split
  · simp
  · split
    · rfl
    · exact grantLane_sm e s

theorem offerAll_sm (es : List SeatWait) (s : State) :
    (offerAll es s).sm = { s.sm with window := (offerAll es s).sm.window, waiting := (offerAll es s).sm.waiting } := by
  induction es generalizing s with
  | nil => rfl
  | cons e es ih =>
    have h := grantStep_sm e s
    simp only [offerAll]
    split
    · split
      · rename_i s' hs
        rw [hs] at h
        simp only at h
        have := ih s'
        rw [this, h]
      · rename_i s' hs; rw [hs] at h; exact h
    · rfl

theorem grantPass_sm (s : State) :
    (grantPass s).sm = { s.sm with window := (grantPass s).sm.window, waiting := (grantPass s).sm.waiting } :=
  offerAll_sm _ _

theorem grantStep_lane (e : SeatWait) (s : State) (n : LaneNo) (h : e.lane ≠ n) :
    (grantStep e s).2.lane n = s.lane n := by
  unfold grantStep
  split
  · simp [State.lane]
  · split
    · rfl
    · unfold grantLane
      split
      · rfl
      · simp only []
        split <;> split <;> simp [modLane, claimJournal, claimPosting, provisionalAppend, State.lane, State.setLane,
          lanes_get_set_other _ _ _ _ (Ne.symm h)]

theorem offerAll_lane (es : List SeatWait) (s : State) (n : LaneNo) (h : ∀ e ∈ es, e.lane ≠ n) :
    (offerAll es s).lane n = s.lane n := by
  induction es generalizing s with
  | nil => rfl
  | cons e es ih =>
    have h1 := grantStep_lane e s n (h e (by simp))
    simp only [offerAll]
    split
    · split
      · rename_i s' hs; rw [hs] at h1; rw [ih s' (fun e he => h e (by simp [he]))]; exact h1
      · rename_i s' hs; rw [hs] at h1; exact h1
    · rfl

theorem grantPass_lane (s : State) (n : LaneNo) (h : ∀ e ∈ s.sm.waiting, e.lane ≠ n) :
    (grantPass s).lane n = s.lane n :=
  offerAll_lane _ _ _ h

@[simp] theorem giveBackJournal_frame (s : State) :
    (giveBackJournal s).ae = s.ae ∧ (giveBackJournal s).du = s.du ∧ (giveBackJournal s).ru = s.ru ∧
      (giveBackJournal s).lsu = s.lsu ∧ (giveBackJournal s).sps = s.sps ∧ (giveBackJournal s).pins = s.pins ∧
      (giveBackJournal s).store = s.store ∧ (giveBackJournal s).ms = s.ms ∧ (giveBackJournal s).drawn = s.drawn ∧
      (giveBackJournal s).pending = s.pending ∧ (giveBackJournal s).jnl.records = s.jnl.records ∧
      (giveBackJournal s).jnl.nextSeq = s.jnl.nextSeq ∧ (giveBackJournal s).psc.postings = s.psc.postings ∧
      (giveBackJournal s).psc.state = s.psc.state ∧ (giveBackJournal s).hlc.slots = s.hlc.slots ∧
      (giveBackJournal s).hlc.running = s.hlc.running ∧ (giveBackJournal s).iqu.link = s.iqu.link ∧
      mainOn (giveBackJournal s) = mainOn s ∧ (giveBackJournal s).now = s.now := by
  and_intros <;> (unfold giveBackJournal; simp [mainOn, State.now])

@[simp] theorem giveBackPosting_frame (s : State) :
    (giveBackPosting s).ae = s.ae ∧ (giveBackPosting s).du = s.du ∧ (giveBackPosting s).ru = s.ru ∧
      (giveBackPosting s).lsu = s.lsu ∧ (giveBackPosting s).sps = s.sps ∧ (giveBackPosting s).pins = s.pins ∧
      (giveBackPosting s).store = s.store ∧ (giveBackPosting s).ms = s.ms ∧ (giveBackPosting s).drawn = s.drawn ∧
      (giveBackPosting s).pending = s.pending ∧ (giveBackPosting s).jnl.records = s.jnl.records ∧
      (giveBackPosting s).jnl.nextSeq = s.jnl.nextSeq ∧ (giveBackPosting s).psc.postings = s.psc.postings ∧
      (giveBackPosting s).psc.state = s.psc.state ∧ (giveBackPosting s).hlc.slots = s.hlc.slots ∧
      (giveBackPosting s).hlc.running = s.hlc.running ∧ (giveBackPosting s).iqu.link = s.iqu.link ∧
      mainOn (giveBackPosting s) = mainOn s ∧ (giveBackPosting s).now = s.now := by
  and_intros <;> (unfold giveBackPosting; simp [mainOn, State.now])

@[simp] theorem returnSeat_frame (window : Nat) (s : State) :
    (returnSeat window s).ae = s.ae ∧ (returnSeat window s).du = s.du ∧ (returnSeat window s).ru = s.ru ∧
      (returnSeat window s).lsu = s.lsu ∧ (returnSeat window s).sps = s.sps ∧ (returnSeat window s).pins = s.pins ∧
      (returnSeat window s).store = s.store ∧ (returnSeat window s).ms = s.ms ∧
      (returnSeat window s).drawn = s.drawn ∧ (returnSeat window s).pending = s.pending ∧
      (returnSeat window s).jnl.records = s.jnl.records ∧ (returnSeat window s).jnl.nextSeq = s.jnl.nextSeq ∧
      (returnSeat window s).psc.postings = s.psc.postings ∧ (returnSeat window s).psc.state = s.psc.state ∧
      (returnSeat window s).hlc.slots = s.hlc.slots ∧ (returnSeat window s).hlc.running = s.hlc.running ∧
      (returnSeat window s).iqu.link = s.iqu.link ∧ mainOn (returnSeat window s) = mainOn s ∧
      (returnSeat window s).now = s.now := by
  and_intros <;> (unfold returnSeat; first | (simp [mainOn, State.now]; done) | (try dsimp only) <;> (repeat' split) <;> simp [mainOn, State.now])

@[simp] theorem joinWaiting_frame (n : LaneNo) (a : Admission) (s : State) :
    (joinWaiting n a s).ae = s.ae ∧ (joinWaiting n a s).du = s.du ∧ (joinWaiting n a s).ru = s.ru ∧
      (joinWaiting n a s).lsu = s.lsu ∧ (joinWaiting n a s).sps = s.sps ∧ (joinWaiting n a s).pins = s.pins ∧
      (joinWaiting n a s).store = s.store ∧ (joinWaiting n a s).ms = s.ms ∧ (joinWaiting n a s).drawn = s.drawn ∧
      (joinWaiting n a s).pending = s.pending ∧ (joinWaiting n a s).jnl.records = s.jnl.records ∧
      (joinWaiting n a s).jnl.nextSeq = s.jnl.nextSeq ∧ (joinWaiting n a s).psc.postings = s.psc.postings ∧
      (joinWaiting n a s).psc.state = s.psc.state ∧ (joinWaiting n a s).hlc.slots = s.hlc.slots ∧
      (joinWaiting n a s).hlc.running = s.hlc.running ∧ (joinWaiting n a s).iqu.link = s.iqu.link ∧
      mainOn (joinWaiting n a s) = mainOn s ∧ (joinWaiting n a s).now = s.now := by
  and_intros <;> (unfold joinWaiting; simp [mainOn, State.now])

@[simp] theorem leaveWaiting_frame (n : LaneNo) (s : State) :
    (leaveWaiting n s).lanes = s.lanes ∧ (leaveWaiting n s).ae = s.ae ∧ (leaveWaiting n s).psc = s.psc ∧
      (leaveWaiting n s).iqu = s.iqu ∧ (leaveWaiting n s).du = s.du ∧ (leaveWaiting n s).ru = s.ru ∧
      (leaveWaiting n s).lsu = s.lsu ∧ (leaveWaiting n s).jnl = s.jnl ∧ (leaveWaiting n s).hlc = s.hlc ∧
      (leaveWaiting n s).sps = s.sps ∧ (leaveWaiting n s).pins = s.pins ∧ (leaveWaiting n s).store = s.store ∧
      (leaveWaiting n s).ms = s.ms ∧ (leaveWaiting n s).drawn = s.drawn ∧ (leaveWaiting n s).pending = s.pending ∧
      (leaveWaiting n s).sm.window = s.sm.window ∧ mainOn (leaveWaiting n s) = mainOn s ∧
      (leaveWaiting n s).now = s.now := by
  and_intros <;> (unfold leaveWaiting; simp [mainOn, State.now])

@[simp] theorem endWindow_frame (s : State) :
    (endWindow s).lanes = s.lanes ∧ (endWindow s).ae = s.ae ∧ (endWindow s).psc = s.psc ∧
      (endWindow s).iqu = s.iqu ∧ (endWindow s).du = s.du ∧ (endWindow s).ru = s.ru ∧ (endWindow s).lsu = s.lsu ∧
      (endWindow s).hlc = s.hlc ∧ (endWindow s).sps = s.sps ∧ (endWindow s).pins = s.pins ∧
      (endWindow s).store = s.store ∧ (endWindow s).ms = s.ms ∧ (endWindow s).drawn = s.drawn ∧
      (endWindow s).pending = s.pending ∧ (endWindow s).jnl.records = s.jnl.records ∧
      (endWindow s).jnl.nextSeq = s.jnl.nextSeq ∧ (endWindow s).jnl.credits = s.jnl.credits ∧
      (endWindow s).sm.waiting = s.sm.waiting ∧ mainOn (endWindow s) = mainOn s ∧ (endWindow s).now = s.now := by
  and_intros <;> (unfold endWindow; first | (simp [mainOn, State.now]; done) | (try dsimp only) <;> (repeat' split) <;> simp [mainOn, State.now])

@[simp] theorem openWindow_frame (s : State) :
    (openWindow s).ae = s.ae ∧ (openWindow s).du = s.du ∧ (openWindow s).ru = s.ru ∧ (openWindow s).lsu = s.lsu ∧
      (openWindow s).sps = s.sps ∧ (openWindow s).pins = s.pins ∧ (openWindow s).store = s.store ∧
      (openWindow s).ms = s.ms ∧ (openWindow s).drawn = s.drawn ∧ (openWindow s).pending = s.pending ∧
      (openWindow s).jnl.records = s.jnl.records ∧ (openWindow s).jnl.nextSeq = s.jnl.nextSeq ∧
      (openWindow s).psc.postings = s.psc.postings ∧ (openWindow s).psc.state = s.psc.state ∧
      (openWindow s).hlc.slots = s.hlc.slots ∧ (openWindow s).hlc.running = s.hlc.running ∧
      (openWindow s).iqu.link = s.iqu.link ∧ mainOn (openWindow s) = mainOn s ∧ (openWindow s).now = s.now := by
  and_intros <;> (unfold openWindow; simp [mainOn, State.now])

@[simp] theorem startWindowTimer_frame (s : State) :
    (startWindowTimer s).lanes = s.lanes ∧ (startWindowTimer s).ae = s.ae ∧ (startWindowTimer s).psc = s.psc ∧
      (startWindowTimer s).iqu = s.iqu ∧ (startWindowTimer s).du = s.du ∧ (startWindowTimer s).ru = s.ru ∧
      (startWindowTimer s).lsu = s.lsu ∧ (startWindowTimer s).jnl = s.jnl ∧ (startWindowTimer s).hlc = s.hlc ∧
      (startWindowTimer s).sps = s.sps ∧ (startWindowTimer s).pins = s.pins ∧ (startWindowTimer s).store = s.store ∧
      (startWindowTimer s).ms = s.ms ∧ (startWindowTimer s).drawn = s.drawn ∧
      (startWindowTimer s).pending = s.pending ∧ (startWindowTimer s).sm.window = s.sm.window ∧
      (startWindowTimer s).sm.waiting = s.sm.waiting ∧ mainOn (startWindowTimer s) = mainOn s ∧
      (startWindowTimer s).now = s.now := by
  and_intros <;> (unfold startWindowTimer; simp [mainOn, State.now])

@[simp] theorem armDetection_frame (s : State) :
    (armDetection s).lanes = s.lanes ∧ (armDetection s).ae = s.ae ∧ (armDetection s).psc = s.psc ∧
      (armDetection s).iqu = s.iqu ∧ (armDetection s).du = s.du ∧ (armDetection s).ru = s.ru ∧
      (armDetection s).lsu = s.lsu ∧ (armDetection s).jnl = s.jnl ∧ (armDetection s).hlc = s.hlc ∧
      (armDetection s).sps = s.sps ∧ (armDetection s).pins = s.pins ∧ (armDetection s).store = s.store ∧
      (armDetection s).ms = s.ms ∧ (armDetection s).drawn = s.drawn ∧ (armDetection s).pending = s.pending ∧
      (armDetection s).sm.window = s.sm.window ∧ (armDetection s).sm.waiting = s.sm.waiting ∧
      mainOn (armDetection s) = mainOn s ∧ (armDetection s).now = s.now := by
  and_intros <;> (unfold armDetection; first | (simp [mainOn, State.now]; done) | (try dsimp only) <;> (repeat' split) <;> simp [mainOn, State.now])

@[simp] theorem disarmDetection_frame (s : State) :
    (disarmDetection s).lanes = s.lanes ∧ (disarmDetection s).ae = s.ae ∧ (disarmDetection s).psc = s.psc ∧
      (disarmDetection s).iqu = s.iqu ∧ (disarmDetection s).du = s.du ∧ (disarmDetection s).ru = s.ru ∧
      (disarmDetection s).lsu = s.lsu ∧ (disarmDetection s).jnl = s.jnl ∧ (disarmDetection s).hlc = s.hlc ∧
      (disarmDetection s).sps = s.sps ∧ (disarmDetection s).pins = s.pins ∧ (disarmDetection s).store = s.store ∧
      (disarmDetection s).ms = s.ms ∧ (disarmDetection s).drawn = s.drawn ∧ (disarmDetection s).pending = s.pending ∧
      (disarmDetection s).sm.window = s.sm.window ∧ (disarmDetection s).sm.waiting = s.sm.waiting ∧
      mainOn (disarmDetection s) = mainOn s ∧ (disarmDetection s).now = s.now := by
  and_intros <;> (unfold disarmDetection; simp [mainOn, State.now])

@[simp] theorem joinSet_frame (pass : Nat) (h : Holder) (s : State) :
    (joinSet pass h s).lanes = s.lanes ∧ (joinSet pass h s).psc = s.psc ∧ (joinSet pass h s).iqu = s.iqu ∧
      (joinSet pass h s).sm = s.sm ∧ (joinSet pass h s).du = s.du ∧ (joinSet pass h s).ru = s.ru ∧
      (joinSet pass h s).lsu = s.lsu ∧ (joinSet pass h s).jnl = s.jnl ∧ (joinSet pass h s).hlc = s.hlc ∧
      (joinSet pass h s).sps = s.sps ∧ (joinSet pass h s).pins = s.pins ∧ (joinSet pass h s).store = s.store ∧
      (joinSet pass h s).ms = s.ms ∧ (joinSet pass h s).drawn = s.drawn ∧ (joinSet pass h s).pending = s.pending ∧
      mainOn (joinSet pass h s) = mainOn s ∧ (joinSet pass h s).now = s.now := by
  and_intros <;> (unfold joinSet; simp [mainOn, State.now])

@[simp] theorem leaveSet_frame (h : Holder) (s : State) :
    (leaveSet h s).lanes = s.lanes ∧ (leaveSet h s).psc = s.psc ∧ (leaveSet h s).iqu = s.iqu ∧
      (leaveSet h s).sm = s.sm ∧ (leaveSet h s).du = s.du ∧ (leaveSet h s).ru = s.ru ∧ (leaveSet h s).lsu = s.lsu ∧
      (leaveSet h s).jnl = s.jnl ∧ (leaveSet h s).hlc = s.hlc ∧ (leaveSet h s).sps = s.sps ∧
      (leaveSet h s).pins = s.pins ∧ (leaveSet h s).store = s.store ∧ (leaveSet h s).ms = s.ms ∧
      (leaveSet h s).drawn = s.drawn ∧ (leaveSet h s).pending = s.pending ∧ mainOn (leaveSet h s) = mainOn s ∧
      (leaveSet h s).now = s.now := by
  and_intros <;> (unfold leaveSet; simp [mainOn, State.now])

@[simp] theorem leaveSetLane_frame (n : LaneNo) (s : State) :
    (leaveSetLane n s).lanes = s.lanes ∧ (leaveSetLane n s).psc = s.psc ∧ (leaveSetLane n s).iqu = s.iqu ∧
      (leaveSetLane n s).sm = s.sm ∧ (leaveSetLane n s).du = s.du ∧ (leaveSetLane n s).ru = s.ru ∧
      (leaveSetLane n s).lsu = s.lsu ∧ (leaveSetLane n s).jnl = s.jnl ∧ (leaveSetLane n s).hlc = s.hlc ∧
      (leaveSetLane n s).sps = s.sps ∧ (leaveSetLane n s).pins = s.pins ∧ (leaveSetLane n s).store = s.store ∧
      (leaveSetLane n s).ms = s.ms ∧ (leaveSetLane n s).drawn = s.drawn ∧ (leaveSetLane n s).pending = s.pending ∧
      mainOn (leaveSetLane n s) = mainOn s ∧ (leaveSetLane n s).now = s.now := by
  and_intros <;> (unfold leaveSetLane; simp [mainOn, State.now])

end Sys2Proof.Machine
end

