-- ==== Sys2Proof/Laws/FrameLanes.lean ====
section
/-! SUPPORT. Frames of the operations of the lane units: what each leaves as it was, one simp lemma an operation. -/

namespace Sys2Proof.Machine
-- one theorem at a time: the package as one text elaborates within the memory limit
set_option Elab.async false
open Sys2Proof.Config

@[simp] theorem enterIdle_frame (n : LaneNo) (s : State) :
    (enterIdle n s).ae = s.ae ∧ (enterIdle n s).psc = s.psc ∧ (enterIdle n s).iqu = s.iqu ∧
      (enterIdle n s).sm = s.sm ∧ (enterIdle n s).du = s.du ∧ (enterIdle n s).ru = s.ru ∧
      (enterIdle n s).lsu = s.lsu ∧ (enterIdle n s).jnl = s.jnl ∧ (enterIdle n s).hlc = s.hlc ∧
      (enterIdle n s).sps = s.sps ∧ (enterIdle n s).pins = s.pins ∧ (enterIdle n s).store = s.store ∧
      (enterIdle n s).ms = s.ms ∧ (enterIdle n s).drawn = s.drawn ∧ (enterIdle n s).pending = s.pending ∧
      mainOn (enterIdle n s) = mainOn s ∧ (enterIdle n s).now = s.now := by
  and_intros <;> (unfold enterIdle; simp [mainOn, State.now])

@[simp] theorem enterFault_frame (n : LaneNo) (s : State) :
    (enterFault n s).ae = s.ae ∧ (enterFault n s).psc = s.psc ∧ (enterFault n s).iqu = s.iqu ∧
      (enterFault n s).sm = s.sm ∧ (enterFault n s).du = s.du ∧ (enterFault n s).ru = s.ru ∧
      (enterFault n s).lsu = s.lsu ∧ (enterFault n s).jnl = s.jnl ∧ (enterFault n s).sps = s.sps ∧
      (enterFault n s).pins = s.pins ∧ (enterFault n s).store = s.store ∧ (enterFault n s).ms = s.ms ∧
      (enterFault n s).drawn = s.drawn ∧ (enterFault n s).pending = s.pending ∧
      (enterFault n s).hlc.slots = s.hlc.slots ∧ (enterFault n s).hlc.running = s.hlc.running ∧
      mainOn (enterFault n s) = mainOn s ∧ (enterFault n s).now = s.now := by
  and_intros <;> (unfold enterFault; simp [mainOn, State.now])

@[simp] theorem enterDisabled_frame (n : LaneNo) (s : State) :
    (enterDisabled n s).ae = s.ae ∧ (enterDisabled n s).psc = s.psc ∧ (enterDisabled n s).iqu = s.iqu ∧
      (enterDisabled n s).sm = s.sm ∧ (enterDisabled n s).du = s.du ∧ (enterDisabled n s).ru = s.ru ∧
      (enterDisabled n s).lsu = s.lsu ∧ (enterDisabled n s).jnl = s.jnl ∧ (enterDisabled n s).hlc = s.hlc ∧
      (enterDisabled n s).sps = s.sps ∧ (enterDisabled n s).pins = s.pins ∧ (enterDisabled n s).store = s.store ∧
      (enterDisabled n s).ms = s.ms ∧ (enterDisabled n s).drawn = s.drawn ∧ (enterDisabled n s).pending = s.pending ∧
      mainOn (enterDisabled n s) = mainOn s ∧ (enterDisabled n s).now = s.now := by
  and_intros <;> (unfold enterDisabled; simp [mainOn, State.now])

@[simp] theorem showDenied_frame (n : LaneNo) (s : State) :
    (showDenied n s).ae = s.ae ∧ (showDenied n s).psc = s.psc ∧ (showDenied n s).iqu = s.iqu ∧
      (showDenied n s).sm = s.sm ∧ (showDenied n s).du = s.du ∧ (showDenied n s).ru = s.ru ∧
      (showDenied n s).lsu = s.lsu ∧ (showDenied n s).jnl = s.jnl ∧ (showDenied n s).hlc = s.hlc ∧
      (showDenied n s).sps = s.sps ∧ (showDenied n s).pins = s.pins ∧ (showDenied n s).store = s.store ∧
      (showDenied n s).ms = s.ms ∧ (showDenied n s).drawn = s.drawn ∧ (showDenied n s).pending = s.pending ∧
      mainOn (showDenied n s) = mainOn s ∧ (showDenied n s).now = s.now := by
  and_intros <;> (unfold showDenied; simp [mainOn, State.now])

@[simp] theorem countDenial_frame (n : LaneNo) (r : Reason) (s : State) :
    (countDenial n r s).lanes = s.lanes ∧ (countDenial n r s).ae = s.ae ∧ (countDenial n r s).psc = s.psc ∧
      (countDenial n r s).iqu = s.iqu ∧ (countDenial n r s).sm = s.sm ∧ (countDenial n r s).du = s.du ∧
      (countDenial n r s).ru = s.ru ∧ (countDenial n r s).lsu = s.lsu ∧ (countDenial n r s).hlc = s.hlc ∧
      (countDenial n r s).sps = s.sps ∧ (countDenial n r s).pins = s.pins ∧ (countDenial n r s).store = s.store ∧
      (countDenial n r s).ms = s.ms ∧ (countDenial n r s).drawn = s.drawn ∧ (countDenial n r s).pending = s.pending ∧
      (countDenial n r s).jnl.records = s.jnl.records ∧ (countDenial n r s).jnl.nextSeq = s.jnl.nextSeq ∧
      (countDenial n r s).jnl.credits = s.jnl.credits ∧ mainOn (countDenial n r s) = mainOn s ∧
      (countDenial n r s).now = s.now := by
  and_intros <;> (unfold countDenial; simp [mainOn, State.now])

@[simp] theorem deny_frame (n : LaneNo) (r : Reason) (s : State) :
    (deny n r s).psc = s.psc ∧ (deny n r s).iqu = s.iqu ∧ (deny n r s).sm = s.sm ∧ (deny n r s).du = s.du ∧
      (deny n r s).ru = s.ru ∧ (deny n r s).lsu = s.lsu ∧ (deny n r s).hlc = s.hlc ∧ (deny n r s).sps = s.sps ∧
      (deny n r s).pins = s.pins ∧ (deny n r s).store = s.store ∧ (deny n r s).ms = s.ms ∧
      (deny n r s).drawn = s.drawn ∧ (deny n r s).pending = s.pending ∧ (deny n r s).jnl.records = s.jnl.records ∧
      (deny n r s).jnl.nextSeq = s.jnl.nextSeq ∧ (deny n r s).jnl.credits = s.jnl.credits ∧
      mainOn (deny n r s) = mainOn s ∧ (deny n r s).now = s.now := by
  and_intros <;> (unfold deny; simp [mainOn, State.now])

@[simp] theorem departInquiry_frame (n : LaneNo) (s : State) :
    (departInquiry n s).lanes = s.lanes ∧ (departInquiry n s).ae = s.ae ∧ (departInquiry n s).psc = s.psc ∧
      (departInquiry n s).sm = s.sm ∧ (departInquiry n s).du = s.du ∧ (departInquiry n s).ru = s.ru ∧
      (departInquiry n s).lsu = s.lsu ∧ (departInquiry n s).jnl = s.jnl ∧ (departInquiry n s).hlc = s.hlc ∧
      (departInquiry n s).sps = s.sps ∧ (departInquiry n s).pins = s.pins ∧ (departInquiry n s).store = s.store ∧
      (departInquiry n s).ms = s.ms ∧ (departInquiry n s).drawn = s.drawn ∧ (departInquiry n s).pending = s.pending ∧
      (departInquiry n s).iqu.link = s.iqu.link ∧ mainOn (departInquiry n s) = mainOn s ∧
      (departInquiry n s).now = s.now := by
  and_intros <;> (unfold departInquiry; simp [mainOn, State.now])

@[simp] theorem withdraw_frame (n : LaneNo) (s : State) :
    (withdraw n s).lanes = s.lanes ∧ (withdraw n s).du = s.du ∧ (withdraw n s).ru = s.ru ∧
      (withdraw n s).lsu = s.lsu ∧ (withdraw n s).jnl = s.jnl ∧ (withdraw n s).hlc = s.hlc ∧
      (withdraw n s).sps = s.sps ∧ (withdraw n s).pins = s.pins ∧ (withdraw n s).store = s.store ∧
      (withdraw n s).ms = s.ms ∧ (withdraw n s).drawn = s.drawn ∧ (withdraw n s).pending = s.pending ∧
      (withdraw n s).sm.window = s.sm.window ∧ (withdraw n s).psc.postings = s.psc.postings ∧
      (withdraw n s).psc.credits = s.psc.credits ∧ (withdraw n s).psc.state = s.psc.state ∧
      (withdraw n s).iqu.link = s.iqu.link ∧ mainOn (withdraw n s) = mainOn s ∧ (withdraw n s).now = s.now := by
  and_intros <;> (unfold withdraw; first | (simp [mainOn, State.now]; done) | (try dsimp only) <;> (repeat' split) <;> simp [mainOn, State.now])

@[simp] theorem giveBackCredits_frame (n : LaneNo) (s : State) :
    (giveBackCredits n s).ae = s.ae ∧ (giveBackCredits n s).du = s.du ∧ (giveBackCredits n s).ru = s.ru ∧
      (giveBackCredits n s).lsu = s.lsu ∧ (giveBackCredits n s).sps = s.sps ∧ (giveBackCredits n s).pins = s.pins ∧
      (giveBackCredits n s).store = s.store ∧ (giveBackCredits n s).ms = s.ms ∧
      (giveBackCredits n s).drawn = s.drawn ∧ (giveBackCredits n s).pending = s.pending ∧
      (giveBackCredits n s).jnl.records = s.jnl.records ∧ (giveBackCredits n s).jnl.nextSeq = s.jnl.nextSeq ∧
      (giveBackCredits n s).psc.postings = s.psc.postings ∧ (giveBackCredits n s).psc.state = s.psc.state ∧
      (giveBackCredits n s).hlc.slots = s.hlc.slots ∧ (giveBackCredits n s).hlc.running = s.hlc.running ∧
      (giveBackCredits n s).iqu.link = s.iqu.link ∧ mainOn (giveBackCredits n s) = mainOn s ∧
      (giveBackCredits n s).now = s.now := by
  and_intros <;> (unfold giveBackCredits; first | (simp [mainOn, State.now]; done) | (try dsimp only) <;> (repeat' split) <;> simp [mainOn, State.now])

@[simp] theorem endGrant_frame (n : LaneNo) (s : State) :
    (endGrant n s).du = s.du ∧ (endGrant n s).ru = s.ru ∧ (endGrant n s).lsu = s.lsu ∧ (endGrant n s).sps = s.sps ∧
      (endGrant n s).pins = s.pins ∧ (endGrant n s).store = s.store ∧ (endGrant n s).ms = s.ms ∧
      (endGrant n s).drawn = s.drawn ∧ (endGrant n s).pending = s.pending ∧
      (endGrant n s).jnl.records = s.jnl.records ∧ (endGrant n s).jnl.nextSeq = s.jnl.nextSeq ∧
      (endGrant n s).psc.postings = s.psc.postings ∧ (endGrant n s).psc.state = s.psc.state ∧
      (endGrant n s).hlc.slots = s.hlc.slots ∧ (endGrant n s).hlc.running = s.hlc.running ∧
      (endGrant n s).iqu.link = s.iqu.link ∧ mainOn (endGrant n s) = mainOn s ∧ (endGrant n s).now = s.now := by
  and_intros <;> (unfold endGrant; first | (simp [mainOn, State.now]; done) | (try dsimp only) <;> (repeat' split) <;> simp [mainOn, State.now])

@[simp] theorem afterGrant_frame (n : LaneNo) (s : State) :
    (afterGrant n s).ae = s.ae ∧ (afterGrant n s).psc = s.psc ∧ (afterGrant n s).iqu = s.iqu ∧
      (afterGrant n s).sm = s.sm ∧ (afterGrant n s).du = s.du ∧ (afterGrant n s).ru = s.ru ∧
      (afterGrant n s).lsu = s.lsu ∧ (afterGrant n s).jnl = s.jnl ∧ (afterGrant n s).sps = s.sps ∧
      (afterGrant n s).pins = s.pins ∧ (afterGrant n s).store = s.store ∧ (afterGrant n s).ms = s.ms ∧
      (afterGrant n s).drawn = s.drawn ∧ (afterGrant n s).pending = s.pending ∧
      (afterGrant n s).hlc.slots = s.hlc.slots ∧ (afterGrant n s).hlc.running = s.hlc.running ∧
      mainOn (afterGrant n s) = mainOn s ∧ (afterGrant n s).now = s.now := by
  and_intros <;> (unfold afterGrant; first | (simp [mainOn, State.now]; done) | (repeat' split) <;> simp [mainOn, State.now])

@[simp] theorem expireGrant_frame (n : LaneNo) (s : State) :
    (expireGrant n s).du = s.du ∧ (expireGrant n s).ru = s.ru ∧ (expireGrant n s).lsu = s.lsu ∧
      (expireGrant n s).sps = s.sps ∧ (expireGrant n s).pins = s.pins ∧ (expireGrant n s).store = s.store ∧
      (expireGrant n s).ms = s.ms ∧ (expireGrant n s).drawn = s.drawn ∧ (expireGrant n s).pending = s.pending ∧
      (expireGrant n s).jnl.records = s.jnl.records ∧ (expireGrant n s).jnl.nextSeq = s.jnl.nextSeq ∧
      (expireGrant n s).psc.postings = s.psc.postings ∧ (expireGrant n s).psc.state = s.psc.state ∧
      (expireGrant n s).hlc.slots = s.hlc.slots ∧ (expireGrant n s).hlc.running = s.hlc.running ∧
      (expireGrant n s).iqu.link = s.iqu.link ∧ mainOn (expireGrant n s) = mainOn s ∧ (expireGrant n s).now = s.now := by
  and_intros <;> (unfold expireGrant; simp [mainOn, State.now])

@[simp] theorem afterPassage_frame (n : LaneNo) (s : State) :
    (afterPassage n s).ae = s.ae ∧ (afterPassage n s).psc = s.psc ∧ (afterPassage n s).iqu = s.iqu ∧
      (afterPassage n s).sm = s.sm ∧ (afterPassage n s).du = s.du ∧ (afterPassage n s).ru = s.ru ∧
      (afterPassage n s).lsu = s.lsu ∧ (afterPassage n s).jnl = s.jnl ∧ (afterPassage n s).sps = s.sps ∧
      (afterPassage n s).pins = s.pins ∧ (afterPassage n s).store = s.store ∧ (afterPassage n s).ms = s.ms ∧
      (afterPassage n s).drawn = s.drawn ∧ (afterPassage n s).pending = s.pending ∧
      (afterPassage n s).hlc.slots = s.hlc.slots ∧ (afterPassage n s).hlc.running = s.hlc.running ∧
      mainOn (afterPassage n s) = mainOn s ∧ (afterPassage n s).now = s.now := by
  and_intros <;> (unfold afterPassage; first | (simp [mainOn, State.now]; done) | (repeat' split) <;> simp [mainOn, State.now])

@[simp] theorem countPassage_frame (n : LaneNo) (a : Admission) (followers : Nat) (s : State) :
    (countPassage n a followers s).lanes = s.lanes ∧ (countPassage n a followers s).ae = s.ae ∧
      (countPassage n a followers s).psc = s.psc ∧ (countPassage n a followers s).iqu = s.iqu ∧
      (countPassage n a followers s).sm = s.sm ∧ (countPassage n a followers s).du = s.du ∧
      (countPassage n a followers s).ru = s.ru ∧ (countPassage n a followers s).lsu = s.lsu ∧
      (countPassage n a followers s).hlc = s.hlc ∧ (countPassage n a followers s).sps = s.sps ∧
      (countPassage n a followers s).pins = s.pins ∧ (countPassage n a followers s).store = s.store ∧
      (countPassage n a followers s).ms = s.ms ∧ (countPassage n a followers s).drawn = s.drawn ∧
      (countPassage n a followers s).pending = s.pending ∧
      (countPassage n a followers s).jnl.records = s.jnl.records ∧
      (countPassage n a followers s).jnl.nextSeq = s.jnl.nextSeq ∧
      (countPassage n a followers s).jnl.credits = s.jnl.credits ∧ mainOn (countPassage n a followers s) = mainOn s ∧
      (countPassage n a followers s).now = s.now := by
  and_intros <;> (unfold countPassage; simp [mainOn, State.now])

@[simp] theorem recordPassage_frame (n : LaneNo) (powerCut : Bool) (s : State) :
    (recordPassage n powerCut s).iqu = s.iqu ∧ (recordPassage n powerCut s).sm = s.sm ∧
      (recordPassage n powerCut s).du = s.du ∧ (recordPassage n powerCut s).ru = s.ru ∧
      (recordPassage n powerCut s).lsu = s.lsu ∧ (recordPassage n powerCut s).pins = s.pins ∧
      (recordPassage n powerCut s).store = s.store ∧ (recordPassage n powerCut s).ms = s.ms ∧
      (recordPassage n powerCut s).drawn = s.drawn ∧ (recordPassage n powerCut s).pending = s.pending ∧
      (recordPassage n powerCut s).psc.state = s.psc.state ∧ (recordPassage n powerCut s).hlc.slots = s.hlc.slots ∧
      (recordPassage n powerCut s).hlc.running = s.hlc.running ∧ (recordPassage n powerCut s).sps.bank = s.sps.bank ∧
      (recordPassage n powerCut s).sps.schedule = s.sps.schedule ∧
      (recordPassage n powerCut s).sps.products = s.sps.products ∧
      (recordPassage n powerCut s).sps.supply = s.sps.supply ∧ (recordPassage n powerCut s).sps.cause = s.sps.cause ∧
      (recordPassage n powerCut s).sps.straps = s.sps.straps ∧
      (recordPassage n powerCut s).sps.resetHeld = s.sps.resetHeld ∧
      (recordPassage n powerCut s).sps.retainedLost = s.sps.retainedLost ∧
      mainOn (recordPassage n powerCut s) = mainOn s ∧ (recordPassage n powerCut s).now = s.now := by
  and_intros <;> (unfold recordPassage; first | (simp [mainOn, State.now]; done) | (try dsimp only) <;> (repeat' split) <;> simp [mainOn, State.now])

@[simp] theorem completePassage_frame (n : LaneNo) (s : State) :
    (completePassage n s).iqu = s.iqu ∧ (completePassage n s).sm = s.sm ∧ (completePassage n s).du = s.du ∧
      (completePassage n s).ru = s.ru ∧ (completePassage n s).lsu = s.lsu ∧ (completePassage n s).pins = s.pins ∧
      (completePassage n s).store = s.store ∧ (completePassage n s).ms = s.ms ∧
      (completePassage n s).drawn = s.drawn ∧ (completePassage n s).pending = s.pending ∧
      (completePassage n s).psc.state = s.psc.state ∧ (completePassage n s).hlc.slots = s.hlc.slots ∧
      (completePassage n s).hlc.running = s.hlc.running ∧ (completePassage n s).sps.bank = s.sps.bank ∧
      (completePassage n s).sps.schedule = s.sps.schedule ∧ (completePassage n s).sps.products = s.sps.products ∧
      (completePassage n s).sps.supply = s.sps.supply ∧ (completePassage n s).sps.cause = s.sps.cause ∧
      (completePassage n s).sps.straps = s.sps.straps ∧ (completePassage n s).sps.resetHeld = s.sps.resetHeld ∧
      (completePassage n s).sps.retainedLost = s.sps.retainedLost ∧ mainOn (completePassage n s) = mainOn s ∧
      (completePassage n s).now = s.now := by
  and_intros <;> (unfold completePassage; simp [mainOn, State.now])

@[simp] theorem abandonPassage_frame (n : LaneNo) (s : State) :
    (abandonPassage n s).du = s.du ∧ (abandonPassage n s).ru = s.ru ∧ (abandonPassage n s).lsu = s.lsu ∧
      (abandonPassage n s).sps = s.sps ∧ (abandonPassage n s).pins = s.pins ∧ (abandonPassage n s).store = s.store ∧
      (abandonPassage n s).ms = s.ms ∧ (abandonPassage n s).drawn = s.drawn ∧
      (abandonPassage n s).pending = s.pending ∧ (abandonPassage n s).jnl.records = s.jnl.records ∧
      (abandonPassage n s).jnl.nextSeq = s.jnl.nextSeq ∧ (abandonPassage n s).psc.postings = s.psc.postings ∧
      (abandonPassage n s).psc.state = s.psc.state ∧ (abandonPassage n s).hlc.slots = s.hlc.slots ∧
      (abandonPassage n s).hlc.running = s.hlc.running ∧ (abandonPassage n s).iqu.link = s.iqu.link ∧
      mainOn (abandonPassage n s) = mainOn s ∧ (abandonPassage n s).now = s.now := by
  and_intros <;> (unfold abandonPassage; simp [mainOn, State.now])

@[simp] theorem enterPassing_frame (n : LaneNo) (s : State) :
    (enterPassing n s).ae = s.ae ∧ (enterPassing n s).psc = s.psc ∧ (enterPassing n s).iqu = s.iqu ∧
      (enterPassing n s).sm = s.sm ∧ (enterPassing n s).du = s.du ∧ (enterPassing n s).ru = s.ru ∧
      (enterPassing n s).lsu = s.lsu ∧ (enterPassing n s).jnl = s.jnl ∧ (enterPassing n s).hlc = s.hlc ∧
      (enterPassing n s).sps = s.sps ∧ (enterPassing n s).pins = s.pins ∧ (enterPassing n s).store = s.store ∧
      (enterPassing n s).ms = s.ms ∧ (enterPassing n s).drawn = s.drawn ∧ (enterPassing n s).pending = s.pending ∧
      mainOn (enterPassing n s) = mainOn s ∧ (enterPassing n s).now = s.now := by
  and_intros <;> (unfold enterPassing; simp [mainOn, State.now])

@[simp] theorem intrusion_frame (n : LaneNo) (s : State) :
    (intrusion n s).lanes = s.lanes ∧ (intrusion n s).ae = s.ae ∧ (intrusion n s).psc = s.psc ∧
      (intrusion n s).iqu = s.iqu ∧ (intrusion n s).sm = s.sm ∧ (intrusion n s).du = s.du ∧
      (intrusion n s).ru = s.ru ∧ (intrusion n s).lsu = s.lsu ∧ (intrusion n s).pins = s.pins ∧
      (intrusion n s).store = s.store ∧ (intrusion n s).ms = s.ms ∧ (intrusion n s).drawn = s.drawn ∧
      (intrusion n s).pending = s.pending ∧ (intrusion n s).jnl.credits = s.jnl.credits ∧
      (intrusion n s).hlc.slots = s.hlc.slots ∧ (intrusion n s).hlc.running = s.hlc.running ∧
      (intrusion n s).sps.bank = s.sps.bank ∧ (intrusion n s).sps.schedule = s.sps.schedule ∧
      (intrusion n s).sps.products = s.sps.products ∧ (intrusion n s).sps.supply = s.sps.supply ∧
      (intrusion n s).sps.cause = s.sps.cause ∧ (intrusion n s).sps.straps = s.sps.straps ∧
      (intrusion n s).sps.resetHeld = s.sps.resetHeld ∧ (intrusion n s).sps.retainedLost = s.sps.retainedLost ∧
      mainOn (intrusion n s) = mainOn s ∧ (intrusion n s).now = s.now := by
  and_intros <;> (unfold intrusion; simp [mainOn, State.now])

@[simp] theorem failedRead_frame (n : LaneNo) (s : State) :
    (failedRead n s).psc = s.psc ∧ (failedRead n s).iqu = s.iqu ∧ (failedRead n s).sm = s.sm ∧
      (failedRead n s).du = s.du ∧ (failedRead n s).ru = s.ru ∧ (failedRead n s).lsu = s.lsu ∧
      (failedRead n s).hlc = s.hlc ∧ (failedRead n s).sps = s.sps ∧ (failedRead n s).pins = s.pins ∧
      (failedRead n s).store = s.store ∧ (failedRead n s).ms = s.ms ∧ (failedRead n s).drawn = s.drawn ∧
      (failedRead n s).pending = s.pending ∧ (failedRead n s).jnl.records = s.jnl.records ∧
      (failedRead n s).jnl.nextSeq = s.jnl.nextSeq ∧ (failedRead n s).jnl.credits = s.jnl.credits ∧
      mainOn (failedRead n s) = mainOn s ∧ (failedRead n s).now = s.now := by
  and_intros <;> (unfold failedRead; first | (simp [mainOn, State.now]; done) | (try dsimp only) <;> (repeat' split) <;> simp [mainOn, State.now])

@[simp] theorem faultAdded_frame (n : LaneNo) (s : State) :
    (faultAdded n s).du = s.du ∧ (faultAdded n s).ru = s.ru ∧ (faultAdded n s).lsu = s.lsu ∧
      (faultAdded n s).jnl = s.jnl ∧ (faultAdded n s).sps = s.sps ∧ (faultAdded n s).pins = s.pins ∧
      (faultAdded n s).store = s.store ∧ (faultAdded n s).ms = s.ms ∧ (faultAdded n s).drawn = s.drawn ∧
      (faultAdded n s).pending = s.pending ∧ (faultAdded n s).sm.window = s.sm.window ∧
      (faultAdded n s).psc.postings = s.psc.postings ∧ (faultAdded n s).psc.credits = s.psc.credits ∧
      (faultAdded n s).psc.state = s.psc.state ∧ (faultAdded n s).hlc.slots = s.hlc.slots ∧
      (faultAdded n s).hlc.running = s.hlc.running ∧ (faultAdded n s).iqu.link = s.iqu.link ∧
      mainOn (faultAdded n s) = mainOn s ∧ (faultAdded n s).now = s.now := by
  and_intros <;> (unfold faultAdded; first | (simp [mainOn, State.now]; done) | (repeat' split) <;> simp [mainOn, State.now])

@[simp] theorem faultRemoved_frame (n : LaneNo) (s : State) :
    (faultRemoved n s).ae = s.ae ∧ (faultRemoved n s).psc = s.psc ∧ (faultRemoved n s).iqu = s.iqu ∧
      (faultRemoved n s).sm = s.sm ∧ (faultRemoved n s).du = s.du ∧ (faultRemoved n s).ru = s.ru ∧
      (faultRemoved n s).lsu = s.lsu ∧ (faultRemoved n s).jnl = s.jnl ∧ (faultRemoved n s).hlc = s.hlc ∧
      (faultRemoved n s).sps = s.sps ∧ (faultRemoved n s).pins = s.pins ∧ (faultRemoved n s).store = s.store ∧
      (faultRemoved n s).ms = s.ms ∧ (faultRemoved n s).drawn = s.drawn ∧ (faultRemoved n s).pending = s.pending ∧
      mainOn (faultRemoved n s) = mainOn s ∧ (faultRemoved n s).now = s.now := by
  and_intros <;> (unfold faultRemoved; first | (simp [mainOn, State.now]; done) | (repeat' split) <;> simp [mainOn, State.now])

@[simp] theorem beamsClear_frame (n : LaneNo) (s : State) :
    (beamsClear n s).ae = s.ae ∧ (beamsClear n s).psc = s.psc ∧ (beamsClear n s).iqu = s.iqu ∧
      (beamsClear n s).sm = s.sm ∧ (beamsClear n s).du = s.du ∧ (beamsClear n s).ru = s.ru ∧
      (beamsClear n s).lsu = s.lsu ∧ (beamsClear n s).jnl = s.jnl ∧ (beamsClear n s).hlc = s.hlc ∧
      (beamsClear n s).sps = s.sps ∧ (beamsClear n s).pins = s.pins ∧ (beamsClear n s).store = s.store ∧
      (beamsClear n s).ms = s.ms ∧ (beamsClear n s).drawn = s.drawn ∧ (beamsClear n s).pending = s.pending ∧
      mainOn (beamsClear n s) = mainOn s ∧ (beamsClear n s).now = s.now := by
  and_intros <;> (unfold beamsClear; first | (simp [mainOn, State.now]; done) | (try dsimp only) <;> (repeat' split) <;> simp [mainOn, State.now])

@[simp] theorem beamStoodBroken_frame (n : LaneNo) (s : State) :
    (beamStoodBroken n s).ae = s.ae ∧ (beamStoodBroken n s).psc = s.psc ∧ (beamStoodBroken n s).iqu = s.iqu ∧
      (beamStoodBroken n s).sm = s.sm ∧ (beamStoodBroken n s).du = s.du ∧ (beamStoodBroken n s).ru = s.ru ∧
      (beamStoodBroken n s).lsu = s.lsu ∧ (beamStoodBroken n s).jnl = s.jnl ∧ (beamStoodBroken n s).hlc = s.hlc ∧
      (beamStoodBroken n s).sps = s.sps ∧ (beamStoodBroken n s).pins = s.pins ∧ (beamStoodBroken n s).store = s.store ∧
      (beamStoodBroken n s).ms = s.ms ∧ (beamStoodBroken n s).drawn = s.drawn ∧
      (beamStoodBroken n s).pending = s.pending ∧ mainOn (beamStoodBroken n s) = mainOn s ∧
      (beamStoodBroken n s).now = s.now := by
  and_intros <;> (unfold beamStoodBroken; simp [mainOn, State.now])

@[simp] theorem beamBreakIdle_frame (n : LaneNo) (s : State) :
    (beamBreakIdle n s).ae = s.ae ∧ (beamBreakIdle n s).psc = s.psc ∧ (beamBreakIdle n s).iqu = s.iqu ∧
      (beamBreakIdle n s).sm = s.sm ∧ (beamBreakIdle n s).du = s.du ∧ (beamBreakIdle n s).ru = s.ru ∧
      (beamBreakIdle n s).lsu = s.lsu ∧ (beamBreakIdle n s).jnl = s.jnl ∧ (beamBreakIdle n s).hlc = s.hlc ∧
      (beamBreakIdle n s).sps = s.sps ∧ (beamBreakIdle n s).pins = s.pins ∧ (beamBreakIdle n s).store = s.store ∧
      (beamBreakIdle n s).ms = s.ms ∧ (beamBreakIdle n s).drawn = s.drawn ∧ (beamBreakIdle n s).pending = s.pending ∧
      mainOn (beamBreakIdle n s) = mainOn s ∧ (beamBreakIdle n s).now = s.now := by
  and_intros <;> (unfold beamBreakIdle; first | (simp [mainOn, State.now]; done) | (repeat' split) <;> simp [mainOn, State.now])

@[simp] theorem heard_frame (n : LaneNo) (s : State) :
    (heard n s).ae = s.ae ∧ (heard n s).psc = s.psc ∧ (heard n s).iqu = s.iqu ∧ (heard n s).sm = s.sm ∧
      (heard n s).du = s.du ∧ (heard n s).ru = s.ru ∧ (heard n s).lsu = s.lsu ∧ (heard n s).jnl = s.jnl ∧
      (heard n s).hlc = s.hlc ∧ (heard n s).sps = s.sps ∧ (heard n s).pins = s.pins ∧ (heard n s).store = s.store ∧
      (heard n s).ms = s.ms ∧ (heard n s).drawn = s.drawn ∧ (heard n s).pending = s.pending ∧
      mainOn (heard n s) = mainOn s ∧ (heard n s).now = s.now := by
  and_intros <;> (unfold heard; simp [mainOn, State.now])

@[simp] theorem denyWaiting_frame (r : Reason) (es : List SeatWait) (s : State) :
    (denyWaiting r es s).psc = s.psc ∧ (denyWaiting r es s).iqu = s.iqu ∧ (denyWaiting r es s).sm = s.sm ∧
      (denyWaiting r es s).du = s.du ∧ (denyWaiting r es s).ru = s.ru ∧ (denyWaiting r es s).lsu = s.lsu ∧
      (denyWaiting r es s).hlc = s.hlc ∧ (denyWaiting r es s).sps = s.sps ∧ (denyWaiting r es s).pins = s.pins ∧
      (denyWaiting r es s).store = s.store ∧ (denyWaiting r es s).ms = s.ms ∧ (denyWaiting r es s).drawn = s.drawn ∧
      (denyWaiting r es s).pending = s.pending ∧ (denyWaiting r es s).jnl.records = s.jnl.records ∧
      (denyWaiting r es s).jnl.nextSeq = s.jnl.nextSeq ∧ (denyWaiting r es s).jnl.credits = s.jnl.credits ∧
      mainOn (denyWaiting r es s) = mainOn s ∧ (denyWaiting r es s).now = s.now := by
  induction es generalizing s with
  | nil => simp [denyWaiting]
  | cons x xs ih => simp [denyWaiting, ih]

@[simp] theorem cancelGranted_frame (ns : List LaneNo) (s : State) :
    (cancelGranted ns s).du = s.du ∧ (cancelGranted ns s).ru = s.ru ∧ (cancelGranted ns s).lsu = s.lsu ∧
      (cancelGranted ns s).sps = s.sps ∧ (cancelGranted ns s).pins = s.pins ∧ (cancelGranted ns s).store = s.store ∧
      (cancelGranted ns s).ms = s.ms ∧ (cancelGranted ns s).drawn = s.drawn ∧
      (cancelGranted ns s).pending = s.pending ∧ (cancelGranted ns s).jnl.records = s.jnl.records ∧
      (cancelGranted ns s).jnl.nextSeq = s.jnl.nextSeq ∧ (cancelGranted ns s).psc.postings = s.psc.postings ∧
      (cancelGranted ns s).psc.state = s.psc.state ∧ (cancelGranted ns s).hlc.slots = s.hlc.slots ∧
      (cancelGranted ns s).hlc.running = s.hlc.running ∧ (cancelGranted ns s).iqu.link = s.iqu.link ∧
      mainOn (cancelGranted ns s) = mainOn s ∧ (cancelGranted ns s).now = s.now := by
  induction ns generalizing s with
  | nil => simp [cancelGranted]
  | cons x xs ih => simp only [cancelGranted, ih]; split <;> simp

@[simp] theorem clearLanes_frame (r : Reason) (s : State) :
    (clearLanes r s).du = s.du ∧ (clearLanes r s).ru = s.ru ∧ (clearLanes r s).lsu = s.lsu ∧
      (clearLanes r s).sps = s.sps ∧ (clearLanes r s).pins = s.pins ∧ (clearLanes r s).store = s.store ∧
      (clearLanes r s).ms = s.ms ∧ (clearLanes r s).drawn = s.drawn ∧ (clearLanes r s).pending = s.pending ∧
      (clearLanes r s).jnl.records = s.jnl.records ∧ (clearLanes r s).jnl.nextSeq = s.jnl.nextSeq ∧
      (clearLanes r s).psc.postings = s.psc.postings ∧ (clearLanes r s).psc.state = s.psc.state ∧
      (clearLanes r s).hlc.slots = s.hlc.slots ∧ (clearLanes r s).hlc.running = s.hlc.running ∧
      (clearLanes r s).iqu.link = s.iqu.link ∧ mainOn (clearLanes r s) = mainOn s ∧ (clearLanes r s).now = s.now := by
  and_intros <;> (unfold clearLanes; simp [mainOn, State.now])

end Sys2Proof.Machine
end

