-- ==== Sys2Proof/Laws/FrameDay.lean ====
section
/-! SUPPORT. Frames of the operations of the day unit: what each leaves as it was, one simp lemma an operation. -/

namespace Sys2Proof.Machine
-- one theorem at a time: the package as one text elaborates within the memory limit
set_option Elab.async false
open Sys2Proof.Config

@[simp] theorem evalSchedule_frame (s : State) :
    (evalSchedule s).lanes = s.lanes ∧ (evalSchedule s).ae = s.ae ∧ (evalSchedule s).psc = s.psc ∧
      (evalSchedule s).iqu = s.iqu ∧ (evalSchedule s).ru = s.ru ∧ (evalSchedule s).lsu = s.lsu ∧
      (evalSchedule s).jnl = s.jnl ∧ (evalSchedule s).hlc = s.hlc ∧ (evalSchedule s).sps = s.sps ∧
      (evalSchedule s).pins = s.pins ∧ (evalSchedule s).store = s.store ∧ (evalSchedule s).ms = s.ms ∧
      (evalSchedule s).drawn = s.drawn ∧ (evalSchedule s).pending = s.pending ∧
      (evalSchedule s).sm.window = s.sm.window ∧ (evalSchedule s).sm.waiting = s.sm.waiting ∧
      (evalSchedule s).du.sec = s.du.sec ∧ (evalSchedule s).du.day = s.du.day ∧ mainOn (evalSchedule s) = mainOn s ∧
      (evalSchedule s).now = s.now := by
  and_intros <;> (unfold evalSchedule; first | (simp [mainOn, State.now]; done) | (try dsimp only) <;> (repeat' split) <;> simp [mainOn, State.now])

@[simp] theorem settleSpans_frame (s : State) :
    (settleSpans s).lanes = s.lanes ∧ (settleSpans s).ae = s.ae ∧ (settleSpans s).psc = s.psc ∧
      (settleSpans s).iqu = s.iqu ∧ (settleSpans s).sm = s.sm ∧ (settleSpans s).ru = s.ru ∧
      (settleSpans s).lsu = s.lsu ∧ (settleSpans s).jnl = s.jnl ∧ (settleSpans s).hlc = s.hlc ∧
      (settleSpans s).sps = s.sps ∧ (settleSpans s).pins = s.pins ∧ (settleSpans s).store = s.store ∧
      (settleSpans s).ms = s.ms ∧ (settleSpans s).drawn = s.drawn ∧ (settleSpans s).pending = s.pending ∧
      (settleSpans s).du.sec = s.du.sec ∧ (settleSpans s).du.day = s.du.day ∧ mainOn (settleSpans s) = mainOn s ∧
      (settleSpans s).now = s.now := by
  and_intros <;> (unfold settleSpans; first | (simp [mainOn, State.now]; done) | (try dsimp only) <;> (repeat' split) <;> simp [mainOn, State.now])

@[simp] theorem accrueSecond_frame (s : State) :
    (accrueSecond s).lanes = s.lanes ∧ (accrueSecond s).ae = s.ae ∧ (accrueSecond s).psc = s.psc ∧
      (accrueSecond s).iqu = s.iqu ∧ (accrueSecond s).sm = s.sm ∧ (accrueSecond s).ru = s.ru ∧
      (accrueSecond s).lsu = s.lsu ∧ (accrueSecond s).jnl = s.jnl ∧ (accrueSecond s).hlc = s.hlc ∧
      (accrueSecond s).sps = s.sps ∧ (accrueSecond s).pins = s.pins ∧ (accrueSecond s).store = s.store ∧
      (accrueSecond s).ms = s.ms ∧ (accrueSecond s).drawn = s.drawn ∧ (accrueSecond s).pending = s.pending ∧
      (accrueSecond s).du.day = s.du.day ∧ mainOn (accrueSecond s) = mainOn s := by
  and_intros <;> (unfold accrueSecond; first | (simp [mainOn]; done) | (try dsimp only) <;> (repeat' split) <;> simp [mainOn])

@[simp] theorem addLost_frame (r : Nat × Nat) (s : State) :
    (addLost r s).lanes = s.lanes ∧ (addLost r s).ae = s.ae ∧ (addLost r s).psc = s.psc ∧
      (addLost r s).iqu = s.iqu ∧ (addLost r s).sm = s.sm ∧ (addLost r s).ru = s.ru ∧ (addLost r s).lsu = s.lsu ∧
      (addLost r s).jnl = s.jnl ∧ (addLost r s).hlc = s.hlc ∧ (addLost r s).sps = s.sps ∧
      (addLost r s).pins = s.pins ∧ (addLost r s).store = s.store ∧ (addLost r s).ms = s.ms ∧
      (addLost r s).drawn = s.drawn ∧ (addLost r s).pending = s.pending ∧ (addLost r s).du.sec = s.du.sec ∧
      (addLost r s).du.day = s.du.day ∧ mainOn (addLost r s) = mainOn s ∧ (addLost r s).now = s.now := by
  and_intros <;> (unfold addLost; first | (simp [mainOn, State.now]; done) | (try dsimp only) <;> (repeat' split) <;> simp [mainOn, State.now])

@[simp] theorem foldl_addLost_frame (rs : List (Nat × Nat)) (s : State) :
    (rs.foldl (fun s r => addLost r s) s).lanes = s.lanes ∧ (rs.foldl (fun s r => addLost r s) s).ae = s.ae ∧
      (rs.foldl (fun s r => addLost r s) s).psc = s.psc ∧ (rs.foldl (fun s r => addLost r s) s).iqu = s.iqu ∧
      (rs.foldl (fun s r => addLost r s) s).sm = s.sm ∧ (rs.foldl (fun s r => addLost r s) s).ru = s.ru ∧
      (rs.foldl (fun s r => addLost r s) s).lsu = s.lsu ∧ (rs.foldl (fun s r => addLost r s) s).jnl = s.jnl ∧
      (rs.foldl (fun s r => addLost r s) s).hlc = s.hlc ∧ (rs.foldl (fun s r => addLost r s) s).sps = s.sps ∧
      (rs.foldl (fun s r => addLost r s) s).pins = s.pins ∧ (rs.foldl (fun s r => addLost r s) s).store = s.store ∧
      (rs.foldl (fun s r => addLost r s) s).ms = s.ms ∧ (rs.foldl (fun s r => addLost r s) s).drawn = s.drawn ∧
      (rs.foldl (fun s r => addLost r s) s).pending = s.pending ∧ (rs.foldl (fun s r => addLost r s) s).du.sec = s.du.sec ∧
      (rs.foldl (fun s r => addLost r s) s).du.day = s.du.day ∧ mainOn (rs.foldl (fun s r => addLost r s) s) = mainOn s ∧
      (rs.foldl (fun s r => addLost r s) s).now = s.now := by
  induction rs generalizing s with
  | nil => simp
  | cons r rs ih => simp [ih]

@[simp] theorem backdate_frame (start : Time) (s : State) :
    (backdate start s).lanes = s.lanes ∧ (backdate start s).ae = s.ae ∧ (backdate start s).psc = s.psc ∧
      (backdate start s).iqu = s.iqu ∧ (backdate start s).sm = s.sm ∧ (backdate start s).ru = s.ru ∧
      (backdate start s).lsu = s.lsu ∧ (backdate start s).jnl = s.jnl ∧ (backdate start s).hlc = s.hlc ∧
      (backdate start s).sps = s.sps ∧ (backdate start s).pins = s.pins ∧ (backdate start s).store = s.store ∧
      (backdate start s).ms = s.ms ∧ (backdate start s).drawn = s.drawn ∧ (backdate start s).pending = s.pending ∧
      (backdate start s).du.sec = s.du.sec ∧ (backdate start s).du.day = s.du.day ∧
      mainOn (backdate start s) = mainOn s ∧ (backdate start s).now = s.now := by
  and_intros <;> (unfold backdate; simp [mainOn, State.now])

@[simp] theorem reportHalt_frame (start : Time) (s : State) :
    (reportHalt start s).lanes = s.lanes ∧ (reportHalt start s).ae = s.ae ∧ (reportHalt start s).psc = s.psc ∧
      (reportHalt start s).iqu = s.iqu ∧ (reportHalt start s).sm = s.sm ∧ (reportHalt start s).ru = s.ru ∧
      (reportHalt start s).lsu = s.lsu ∧ (reportHalt start s).jnl = s.jnl ∧ (reportHalt start s).hlc = s.hlc ∧
      (reportHalt start s).sps = s.sps ∧ (reportHalt start s).pins = s.pins ∧ (reportHalt start s).store = s.store ∧
      (reportHalt start s).ms = s.ms ∧ (reportHalt start s).drawn = s.drawn ∧
      (reportHalt start s).pending = s.pending ∧ (reportHalt start s).du.sec = s.du.sec ∧
      (reportHalt start s).du.day = s.du.day ∧ mainOn (reportHalt start s) = mainOn s ∧
      (reportHalt start s).now = s.now := by
  and_intros <;> (unfold reportHalt; simp [mainOn, State.now])

@[simp] theorem stopRecord_frame (cause : StopCause) (start : Time) (finish : Time) (s : State) :
    (stopRecord cause start finish s).lanes = s.lanes ∧ (stopRecord cause start finish s).ae = s.ae ∧
      (stopRecord cause start finish s).psc = s.psc ∧ (stopRecord cause start finish s).iqu = s.iqu ∧
      (stopRecord cause start finish s).sm = s.sm ∧ (stopRecord cause start finish s).du = s.du ∧
      (stopRecord cause start finish s).ru = s.ru ∧ (stopRecord cause start finish s).lsu = s.lsu ∧
      (stopRecord cause start finish s).pins = s.pins ∧ (stopRecord cause start finish s).store = s.store ∧
      (stopRecord cause start finish s).ms = s.ms ∧ (stopRecord cause start finish s).drawn = s.drawn ∧
      (stopRecord cause start finish s).pending = s.pending ∧
      (stopRecord cause start finish s).jnl.credits = s.jnl.credits ∧
      (stopRecord cause start finish s).hlc.slots = s.hlc.slots ∧
      (stopRecord cause start finish s).hlc.running = s.hlc.running ∧
      (stopRecord cause start finish s).sps.bank = s.sps.bank ∧
      (stopRecord cause start finish s).sps.schedule = s.sps.schedule ∧
      (stopRecord cause start finish s).sps.products = s.sps.products ∧
      (stopRecord cause start finish s).sps.supply = s.sps.supply ∧
      (stopRecord cause start finish s).sps.cause = s.sps.cause ∧
      (stopRecord cause start finish s).sps.straps = s.sps.straps ∧
      (stopRecord cause start finish s).sps.resetHeld = s.sps.resetHeld ∧
      (stopRecord cause start finish s).sps.retainedLost = s.sps.retainedLost ∧
      mainOn (stopRecord cause start finish s) = mainOn s ∧ (stopRecord cause start finish s).now = s.now := by
  and_intros <;> (unfold stopRecord; simp [mainOn, State.now])

@[simp] theorem endHalt_frame (finish : Time) (s : State) :
    (endHalt finish s).lanes = s.lanes ∧ (endHalt finish s).ae = s.ae ∧ (endHalt finish s).psc = s.psc ∧
      (endHalt finish s).iqu = s.iqu ∧ (endHalt finish s).sm = s.sm ∧ (endHalt finish s).ru = s.ru ∧
      (endHalt finish s).lsu = s.lsu ∧ (endHalt finish s).pins = s.pins ∧ (endHalt finish s).store = s.store ∧
      (endHalt finish s).ms = s.ms ∧ (endHalt finish s).drawn = s.drawn ∧ (endHalt finish s).pending = s.pending ∧
      (endHalt finish s).jnl.credits = s.jnl.credits ∧ (endHalt finish s).du.sec = s.du.sec ∧
      (endHalt finish s).du.day = s.du.day ∧ (endHalt finish s).hlc.slots = s.hlc.slots ∧
      (endHalt finish s).hlc.running = s.hlc.running ∧ (endHalt finish s).sps.bank = s.sps.bank ∧
      (endHalt finish s).sps.schedule = s.sps.schedule ∧ (endHalt finish s).sps.products = s.sps.products ∧
      (endHalt finish s).sps.supply = s.sps.supply ∧ (endHalt finish s).sps.cause = s.sps.cause ∧
      (endHalt finish s).sps.straps = s.sps.straps ∧ (endHalt finish s).sps.resetHeld = s.sps.resetHeld ∧
      (endHalt finish s).sps.retainedLost = s.sps.retainedLost ∧ mainOn (endHalt finish s) = mainOn s ∧
      (endHalt finish s).now = s.now := by
  and_intros <;> (unfold endHalt; first | (simp [mainOn, State.now]; done) | (try dsimp only) <;> (repeat' split) <;> simp [mainOn, State.now])

@[simp] theorem endBackup_frame (s : State) :
    (endBackup s).lanes = s.lanes ∧ (endBackup s).ae = s.ae ∧ (endBackup s).psc = s.psc ∧
      (endBackup s).iqu = s.iqu ∧ (endBackup s).sm = s.sm ∧ (endBackup s).ru = s.ru ∧ (endBackup s).lsu = s.lsu ∧
      (endBackup s).pins = s.pins ∧ (endBackup s).store = s.store ∧ (endBackup s).ms = s.ms ∧
      (endBackup s).drawn = s.drawn ∧ (endBackup s).pending = s.pending ∧ (endBackup s).jnl.credits = s.jnl.credits ∧
      (endBackup s).du.sec = s.du.sec ∧ (endBackup s).du.day = s.du.day ∧ (endBackup s).hlc.slots = s.hlc.slots ∧
      (endBackup s).hlc.running = s.hlc.running ∧ (endBackup s).sps.bank = s.sps.bank ∧
      (endBackup s).sps.schedule = s.sps.schedule ∧ (endBackup s).sps.products = s.sps.products ∧
      (endBackup s).sps.supply = s.sps.supply ∧ (endBackup s).sps.cause = s.sps.cause ∧
      (endBackup s).sps.straps = s.sps.straps ∧ (endBackup s).sps.resetHeld = s.sps.resetHeld ∧
      (endBackup s).sps.retainedLost = s.sps.retainedLost ∧ mainOn (endBackup s) = mainOn s ∧
      (endBackup s).now = s.now := by
  and_intros <;> (unfold endBackup; first | (simp [mainOn, State.now]; done) | (try dsimp only) <;> (repeat' split) <;> simp [mainOn, State.now])

@[simp] theorem postClosure_frame (day : Nat) (s : State) :
    (postClosure day s).lanes = s.lanes ∧ (postClosure day s).ae = s.ae ∧ (postClosure day s).iqu = s.iqu ∧
      (postClosure day s).sm = s.sm ∧ (postClosure day s).ru = s.ru ∧ (postClosure day s).lsu = s.lsu ∧
      (postClosure day s).hlc = s.hlc ∧ (postClosure day s).sps = s.sps ∧ (postClosure day s).pins = s.pins ∧
      (postClosure day s).store = s.store ∧ (postClosure day s).ms = s.ms ∧ (postClosure day s).drawn = s.drawn ∧
      (postClosure day s).pending = s.pending ∧ (postClosure day s).jnl.records = s.jnl.records ∧
      (postClosure day s).jnl.nextSeq = s.jnl.nextSeq ∧ (postClosure day s).jnl.credits = s.jnl.credits ∧
      (postClosure day s).du.sec = s.du.sec ∧ (postClosure day s).du.day = s.du.day ∧
      (postClosure day s).psc.credits = s.psc.credits ∧ (postClosure day s).psc.state = s.psc.state ∧
      mainOn (postClosure day s) = mainOn s ∧ (postClosure day s).now = s.now := by
  and_intros <;> (unfold postClosure; first | (simp [mainOn, State.now]; done) | (try dsimp only) <;> (repeat' split) <;> simp [mainOn, State.now])

@[simp] theorem offerUnsaved_frame (es : List ClosureEntry) (s : State) :
    (offerUnsaved es s).lanes = s.lanes ∧ (offerUnsaved es s).ae = s.ae ∧ (offerUnsaved es s).iqu = s.iqu ∧
      (offerUnsaved es s).sm = s.sm ∧ (offerUnsaved es s).ru = s.ru ∧ (offerUnsaved es s).lsu = s.lsu ∧
      (offerUnsaved es s).hlc = s.hlc ∧ (offerUnsaved es s).sps = s.sps ∧ (offerUnsaved es s).pins = s.pins ∧
      (offerUnsaved es s).store = s.store ∧ (offerUnsaved es s).ms = s.ms ∧ (offerUnsaved es s).drawn = s.drawn ∧
      (offerUnsaved es s).pending = s.pending ∧ (offerUnsaved es s).jnl.records = s.jnl.records ∧
      (offerUnsaved es s).jnl.nextSeq = s.jnl.nextSeq ∧ (offerUnsaved es s).jnl.credits = s.jnl.credits ∧
      (offerUnsaved es s).du.sec = s.du.sec ∧ (offerUnsaved es s).du.day = s.du.day ∧
      (offerUnsaved es s).psc.credits = s.psc.credits ∧ (offerUnsaved es s).psc.state = s.psc.state ∧
      mainOn (offerUnsaved es s) = mainOn s ∧ (offerUnsaved es s).now = s.now := by
  induction es generalizing s with
  | nil => simp [offerUnsaved]
  | cons x xs ih => simp only [offerUnsaved, ih]; split <;> simp

@[simp] theorem finaliseDay_frame (s : State) :
    (finaliseDay s).lanes = s.lanes ∧ (finaliseDay s).ae = s.ae ∧ (finaliseDay s).psc = s.psc ∧
      (finaliseDay s).iqu = s.iqu ∧ (finaliseDay s).sm = s.sm ∧ (finaliseDay s).ru = s.ru ∧
      (finaliseDay s).lsu = s.lsu ∧ (finaliseDay s).jnl = s.jnl ∧ (finaliseDay s).hlc = s.hlc ∧
      (finaliseDay s).sps = s.sps ∧ (finaliseDay s).pins = s.pins ∧ (finaliseDay s).store = s.store ∧
      (finaliseDay s).ms = s.ms ∧ (finaliseDay s).drawn = s.drawn ∧ (finaliseDay s).pending = s.pending ∧
      (finaliseDay s).du.sec = s.du.sec ∧ (finaliseDay s).du.day = s.du.day ∧ mainOn (finaliseDay s) = mainOn s ∧
      (finaliseDay s).now = s.now := by
  and_intros <;> (unfold finaliseDay; simp [mainOn, State.now])

@[simp] theorem closeBooks_frame (s : State) :
    (closeBooks s).lanes = s.lanes ∧ (closeBooks s).ae = s.ae ∧ (closeBooks s).psc = s.psc ∧
      (closeBooks s).iqu = s.iqu ∧ (closeBooks s).sm = s.sm ∧ (closeBooks s).du = s.du ∧ (closeBooks s).ru = s.ru ∧
      (closeBooks s).lsu = s.lsu ∧ (closeBooks s).pins = s.pins ∧ (closeBooks s).store = s.store ∧
      (closeBooks s).ms = s.ms ∧ (closeBooks s).drawn = s.drawn ∧ (closeBooks s).pending = s.pending ∧
      (closeBooks s).jnl.credits = s.jnl.credits ∧ (closeBooks s).hlc.slots = s.hlc.slots ∧
      (closeBooks s).hlc.running = s.hlc.running ∧ (closeBooks s).sps.bank = s.sps.bank ∧
      (closeBooks s).sps.schedule = s.sps.schedule ∧ (closeBooks s).sps.products = s.sps.products ∧
      (closeBooks s).sps.supply = s.sps.supply ∧ (closeBooks s).sps.cause = s.sps.cause ∧
      (closeBooks s).sps.straps = s.sps.straps ∧ (closeBooks s).sps.resetHeld = s.sps.resetHeld ∧
      (closeBooks s).sps.retainedLost = s.sps.retainedLost ∧ mainOn (closeBooks s) = mainOn s ∧
      (closeBooks s).now = s.now := by
  and_intros <;> (unfold closeBooks; simp [mainOn, State.now])

@[simp] theorem closeDay_frame (s : State) :
    (closeDay s).lanes = s.lanes ∧ (closeDay s).ae = s.ae ∧ (closeDay s).iqu = s.iqu ∧ (closeDay s).sm = s.sm ∧
      (closeDay s).ru = s.ru ∧ (closeDay s).lsu = s.lsu ∧ (closeDay s).pins = s.pins ∧ (closeDay s).store = s.store ∧
      (closeDay s).ms = s.ms ∧ (closeDay s).drawn = s.drawn ∧ (closeDay s).pending = s.pending ∧
      (closeDay s).jnl.credits = s.jnl.credits ∧ (closeDay s).du.sec = s.du.sec ∧ (closeDay s).du.day = s.du.day ∧
      (closeDay s).psc.credits = s.psc.credits ∧ (closeDay s).psc.state = s.psc.state ∧
      (closeDay s).hlc.slots = s.hlc.slots ∧ (closeDay s).hlc.running = s.hlc.running ∧
      (closeDay s).sps.bank = s.sps.bank ∧ (closeDay s).sps.schedule = s.sps.schedule ∧
      (closeDay s).sps.products = s.sps.products ∧ (closeDay s).sps.supply = s.sps.supply ∧
      (closeDay s).sps.cause = s.sps.cause ∧ (closeDay s).sps.straps = s.sps.straps ∧
      (closeDay s).sps.resetHeld = s.sps.resetHeld ∧ (closeDay s).sps.retainedLost = s.sps.retainedLost ∧
      mainOn (closeDay s) = mainOn s ∧ (closeDay s).now = s.now := by
  and_intros <;> (unfold closeDay; simp [mainOn, State.now])

@[simp] theorem beginDay_frame (day : Nat) (sec : Nat) (s : State) :
    (beginDay day sec s).lanes = s.lanes ∧ (beginDay day sec s).ae = s.ae ∧ (beginDay day sec s).psc = s.psc ∧
      (beginDay day sec s).iqu = s.iqu ∧ (beginDay day sec s).ru = s.ru ∧ (beginDay day sec s).lsu = s.lsu ∧
      (beginDay day sec s).jnl = s.jnl ∧ (beginDay day sec s).hlc = s.hlc ∧ (beginDay day sec s).sps = s.sps ∧
      (beginDay day sec s).pins = s.pins ∧ (beginDay day sec s).store = s.store ∧ (beginDay day sec s).ms = s.ms ∧
      (beginDay day sec s).drawn = s.drawn ∧ (beginDay day sec s).pending = s.pending ∧
      (beginDay day sec s).sm.window = s.sm.window ∧ (beginDay day sec s).sm.waiting = s.sm.waiting ∧
      mainOn (beginDay day sec s) = mainOn s := by
  and_intros <;> (unfold beginDay; simp [mainOn])

@[simp] theorem rollover_frame (s : State) :
    (rollover s).lanes = s.lanes ∧ (rollover s).ae = s.ae ∧ (rollover s).iqu = s.iqu ∧ (rollover s).ru = s.ru ∧
      (rollover s).lsu = s.lsu ∧ (rollover s).pins = s.pins ∧ (rollover s).store = s.store ∧ (rollover s).ms = s.ms ∧
      (rollover s).drawn = s.drawn ∧ (rollover s).pending = s.pending ∧ (rollover s).jnl.credits = s.jnl.credits ∧
      (rollover s).sm.window = s.sm.window ∧ (rollover s).sm.waiting = s.sm.waiting ∧
      (rollover s).psc.credits = s.psc.credits ∧ (rollover s).psc.state = s.psc.state ∧
      (rollover s).hlc.slots = s.hlc.slots ∧ (rollover s).hlc.running = s.hlc.running ∧
      (rollover s).sps.bank = s.sps.bank ∧ (rollover s).sps.schedule = s.sps.schedule ∧
      (rollover s).sps.products = s.sps.products ∧ (rollover s).sps.supply = s.sps.supply ∧
      (rollover s).sps.cause = s.sps.cause ∧ (rollover s).sps.straps = s.sps.straps ∧
      (rollover s).sps.resetHeld = s.sps.resetHeld ∧ (rollover s).sps.retainedLost = s.sps.retainedLost ∧
      mainOn (rollover s) = mainOn s := by
  and_intros <;> (unfold rollover; first | (simp [mainOn]; done) | (try dsimp only) <;> (repeat' split) <;> simp [mainOn])

@[simp] theorem advanceClock_frame (s : State) :
    (advanceClock s).lanes = s.lanes ∧ (advanceClock s).ae = s.ae ∧ (advanceClock s).iqu = s.iqu ∧
      (advanceClock s).ru = s.ru ∧ (advanceClock s).lsu = s.lsu ∧ (advanceClock s).pins = s.pins ∧
      (advanceClock s).store = s.store ∧ (advanceClock s).ms = s.ms ∧ (advanceClock s).drawn = s.drawn ∧
      (advanceClock s).pending = s.pending ∧ (advanceClock s).jnl.credits = s.jnl.credits ∧
      (advanceClock s).sm.window = s.sm.window ∧ (advanceClock s).sm.waiting = s.sm.waiting ∧
      (advanceClock s).psc.credits = s.psc.credits ∧ (advanceClock s).psc.state = s.psc.state ∧
      (advanceClock s).hlc.slots = s.hlc.slots ∧ (advanceClock s).hlc.running = s.hlc.running ∧
      (advanceClock s).sps.bank = s.sps.bank ∧ (advanceClock s).sps.schedule = s.sps.schedule ∧
      (advanceClock s).sps.products = s.sps.products ∧ (advanceClock s).sps.supply = s.sps.supply ∧
      (advanceClock s).sps.cause = s.sps.cause ∧ (advanceClock s).sps.straps = s.sps.straps ∧
      (advanceClock s).sps.resetHeld = s.sps.resetHeld ∧ (advanceClock s).sps.retainedLost = s.sps.retainedLost ∧
      mainOn (advanceClock s) = mainOn s := by
  and_intros <;> (unfold advanceClock; first | (simp [mainOn]; done) | (try dsimp only) <;> (repeat' split) <;> simp [mainOn])

@[simp] theorem jumpTo_frame (sec : Nat) (s : State) :
    (jumpTo sec s).lanes = s.lanes ∧ (jumpTo sec s).ae = s.ae ∧ (jumpTo sec s).psc = s.psc ∧
      (jumpTo sec s).iqu = s.iqu ∧ (jumpTo sec s).ru = s.ru ∧ (jumpTo sec s).lsu = s.lsu ∧
      (jumpTo sec s).jnl = s.jnl ∧ (jumpTo sec s).hlc = s.hlc ∧ (jumpTo sec s).sps = s.sps ∧
      (jumpTo sec s).pins = s.pins ∧ (jumpTo sec s).store = s.store ∧ (jumpTo sec s).ms = s.ms ∧
      (jumpTo sec s).drawn = s.drawn ∧ (jumpTo sec s).pending = s.pending ∧ (jumpTo sec s).sm.window = s.sm.window ∧
      (jumpTo sec s).sm.waiting = s.sm.waiting ∧ (jumpTo sec s).du.day = s.du.day ∧ mainOn (jumpTo sec s) = mainOn s := by
  and_intros <;> (unfold jumpTo; simp [mainOn])

@[simp] theorem rearm_frame (was : Bool) (s : State) :
    (rearm was s).lanes = s.lanes ∧ (rearm was s).ae = s.ae ∧ (rearm was s).psc = s.psc ∧
      (rearm was s).iqu = s.iqu ∧ (rearm was s).du = s.du ∧ (rearm was s).ru = s.ru ∧ (rearm was s).lsu = s.lsu ∧
      (rearm was s).jnl = s.jnl ∧ (rearm was s).hlc = s.hlc ∧ (rearm was s).sps = s.sps ∧
      (rearm was s).pins = s.pins ∧ (rearm was s).store = s.store ∧ (rearm was s).ms = s.ms ∧
      (rearm was s).drawn = s.drawn ∧ (rearm was s).pending = s.pending ∧ (rearm was s).sm.window = s.sm.window ∧
      (rearm was s).sm.waiting = s.sm.waiting ∧ mainOn (rearm was s) = mainOn s ∧ (rearm was s).now = s.now := by
  and_intros <;> (unfold rearm; first | (simp [mainOn, State.now]; done) | (repeat' split) <;> simp [mainOn, State.now])

end Sys2Proof.Machine
end

