-- ==== Sys2Proof/Laws/FrameAdmission.lean ====
section
/-! SUPPORT. Frames of the operations of the admission engine and the inquiry unit: what each leaves as it was, one simp lemma an operation. -/

namespace Sys2Proof.Machine
-- one theorem at a time: the package as one text elaborates within the memory limit
set_option Elab.async false
open Sys2Proof.Config

/-- R44, R92: a window admits today exactly when today lies in its days. -/
theorem windowDenies_eq_none {today first span : Nat} :
    windowDenies today first span = none ↔ first ≤ today ∧ today < first + span := by
  unfold windowDenies
  split <;> (try split) <;> simp <;> omega

/-- R44: a record's window admits today exactly when its first day is not 0 and today lies in its days. -/
theorem recordWindowDenies_eq_none {today first span : Nat} :
    recordWindowDenies today first span = none ↔ first ≠ 0 ∧ first ≤ today ∧ today < first + span := by
  unfold recordWindowDenies
  split <;> simp_all [windowDenies_eq_none]

@[simp] theorem handDenial_frame (n : LaneNo) (presentation : Nat) (r : Reason) (s : State) :
    (handDenial n presentation r s).psc = s.psc ∧ (handDenial n presentation r s).iqu = s.iqu ∧
      (handDenial n presentation r s).sm = s.sm ∧ (handDenial n presentation r s).du = s.du ∧
      (handDenial n presentation r s).ru = s.ru ∧ (handDenial n presentation r s).lsu = s.lsu ∧
      (handDenial n presentation r s).hlc = s.hlc ∧ (handDenial n presentation r s).sps = s.sps ∧
      (handDenial n presentation r s).pins = s.pins ∧ (handDenial n presentation r s).store = s.store ∧
      (handDenial n presentation r s).ms = s.ms ∧ (handDenial n presentation r s).drawn = s.drawn ∧
      (handDenial n presentation r s).pending = s.pending ∧
      (handDenial n presentation r s).jnl.records = s.jnl.records ∧
      (handDenial n presentation r s).jnl.nextSeq = s.jnl.nextSeq ∧
      (handDenial n presentation r s).jnl.credits = s.jnl.credits ∧
      mainOn (handDenial n presentation r s) = mainOn s ∧ (handDenial n presentation r s).now = s.now := by
  and_intros <;> (unfold handDenial; first | (simp [mainOn, State.now]; done) | (repeat' split) <;> simp [mainOn, State.now])

@[simp] theorem handAdmission_frame (n : LaneNo) (presentation : Nat) (a : Admission) (s : State) :
    (handAdmission n presentation a s).ae = s.ae ∧ (handAdmission n presentation a s).du = s.du ∧
      (handAdmission n presentation a s).ru = s.ru ∧ (handAdmission n presentation a s).lsu = s.lsu ∧
      (handAdmission n presentation a s).sps = s.sps ∧ (handAdmission n presentation a s).pins = s.pins ∧
      (handAdmission n presentation a s).store = s.store ∧ (handAdmission n presentation a s).ms = s.ms ∧
      (handAdmission n presentation a s).drawn = s.drawn ∧ (handAdmission n presentation a s).pending = s.pending ∧
      (handAdmission n presentation a s).jnl.records = s.jnl.records ∧
      (handAdmission n presentation a s).jnl.nextSeq = s.jnl.nextSeq ∧
      (handAdmission n presentation a s).psc.postings = s.psc.postings ∧
      (handAdmission n presentation a s).psc.state = s.psc.state ∧
      (handAdmission n presentation a s).hlc.slots = s.hlc.slots ∧
      (handAdmission n presentation a s).hlc.running = s.hlc.running ∧
      (handAdmission n presentation a s).iqu.link = s.iqu.link ∧
      mainOn (handAdmission n presentation a s) = mainOn s ∧ (handAdmission n presentation a s).now = s.now := by
  and_intros <;> (unfold handAdmission; first | (simp [mainOn, State.now]; done) | (repeat' split) <;> simp [mainOn, State.now])

@[simp] theorem outcomeGate_frame (n : LaneNo) (presentation : Nat) (a : Admission) (s : State) :
    (outcomeGate n presentation a s).du = s.du ∧ (outcomeGate n presentation a s).ru = s.ru ∧
      (outcomeGate n presentation a s).lsu = s.lsu ∧ (outcomeGate n presentation a s).sps = s.sps ∧
      (outcomeGate n presentation a s).pins = s.pins ∧ (outcomeGate n presentation a s).store = s.store ∧
      (outcomeGate n presentation a s).ms = s.ms ∧ (outcomeGate n presentation a s).drawn = s.drawn ∧
      (outcomeGate n presentation a s).pending = s.pending ∧
      (outcomeGate n presentation a s).jnl.records = s.jnl.records ∧
      (outcomeGate n presentation a s).jnl.nextSeq = s.jnl.nextSeq ∧
      (outcomeGate n presentation a s).psc.postings = s.psc.postings ∧
      (outcomeGate n presentation a s).psc.state = s.psc.state ∧
      (outcomeGate n presentation a s).hlc.slots = s.hlc.slots ∧
      (outcomeGate n presentation a s).hlc.running = s.hlc.running ∧
      (outcomeGate n presentation a s).iqu.link = s.iqu.link ∧ mainOn (outcomeGate n presentation a s) = mainOn s ∧
      (outcomeGate n presentation a s).now = s.now := by
  and_intros <;> (unfold outcomeGate; first | (simp [mainOn, State.now]; done) | (repeat' split) <;> simp [mainOn, State.now])

@[simp] theorem decideOnRecord_frame (n : LaneNo) (presentation : Nat) (r : PassRecord) (s : State) :
    (decideOnRecord n presentation r s).du = s.du ∧ (decideOnRecord n presentation r s).ru = s.ru ∧
      (decideOnRecord n presentation r s).lsu = s.lsu ∧ (decideOnRecord n presentation r s).sps = s.sps ∧
      (decideOnRecord n presentation r s).pins = s.pins ∧ (decideOnRecord n presentation r s).store = s.store ∧
      (decideOnRecord n presentation r s).ms = s.ms ∧ (decideOnRecord n presentation r s).drawn = s.drawn ∧
      (decideOnRecord n presentation r s).pending = s.pending ∧
      (decideOnRecord n presentation r s).jnl.records = s.jnl.records ∧
      (decideOnRecord n presentation r s).jnl.nextSeq = s.jnl.nextSeq ∧
      (decideOnRecord n presentation r s).psc.postings = s.psc.postings ∧
      (decideOnRecord n presentation r s).psc.state = s.psc.state ∧
      (decideOnRecord n presentation r s).hlc.slots = s.hlc.slots ∧
      (decideOnRecord n presentation r s).hlc.running = s.hlc.running ∧
      (decideOnRecord n presentation r s).iqu.link = s.iqu.link ∧
      mainOn (decideOnRecord n presentation r s) = mainOn s ∧ (decideOnRecord n presentation r s).now = s.now := by
  and_intros <;> (unfold decideOnRecord; first | (simp [mainOn, State.now]; done) | (repeat' split) <;> simp [mainOn, State.now])

@[simp] theorem offlinePolicy_frame (n : LaneNo) (presentation : Nat) (image : List Byte) (origin : Origin) (s : State) :
    (offlinePolicy n presentation image origin s).du = s.du ∧
      (offlinePolicy n presentation image origin s).ru = s.ru ∧
      (offlinePolicy n presentation image origin s).lsu = s.lsu ∧
      (offlinePolicy n presentation image origin s).sps = s.sps ∧
      (offlinePolicy n presentation image origin s).pins = s.pins ∧
      (offlinePolicy n presentation image origin s).store = s.store ∧
      (offlinePolicy n presentation image origin s).ms = s.ms ∧
      (offlinePolicy n presentation image origin s).drawn = s.drawn ∧
      (offlinePolicy n presentation image origin s).pending = s.pending ∧
      (offlinePolicy n presentation image origin s).jnl.records = s.jnl.records ∧
      (offlinePolicy n presentation image origin s).jnl.nextSeq = s.jnl.nextSeq ∧
      (offlinePolicy n presentation image origin s).psc.postings = s.psc.postings ∧
      (offlinePolicy n presentation image origin s).psc.state = s.psc.state ∧
      (offlinePolicy n presentation image origin s).hlc.slots = s.hlc.slots ∧
      (offlinePolicy n presentation image origin s).hlc.running = s.hlc.running ∧
      (offlinePolicy n presentation image origin s).iqu.link = s.iqu.link ∧
      mainOn (offlinePolicy n presentation image origin s) = mainOn s ∧
      (offlinePolicy n presentation image origin s).now = s.now := by
  and_intros <;> (unfold offlinePolicy; first | (simp [mainOn, State.now]; done) | (repeat' split) <;> simp [mainOn, State.now])

@[simp] theorem sendInquiry_frame (n : LaneNo) (presentation : Nat) (image : List Byte) (s : State) :
    (sendInquiry n presentation image s).lanes = s.lanes ∧ (sendInquiry n presentation image s).ae = s.ae ∧
      (sendInquiry n presentation image s).psc = s.psc ∧ (sendInquiry n presentation image s).sm = s.sm ∧
      (sendInquiry n presentation image s).du = s.du ∧ (sendInquiry n presentation image s).ru = s.ru ∧
      (sendInquiry n presentation image s).lsu = s.lsu ∧ (sendInquiry n presentation image s).jnl = s.jnl ∧
      (sendInquiry n presentation image s).sps = s.sps ∧ (sendInquiry n presentation image s).pins = s.pins ∧
      (sendInquiry n presentation image s).store = s.store ∧ (sendInquiry n presentation image s).ms = s.ms ∧
      (sendInquiry n presentation image s).drawn = s.drawn ∧
      (sendInquiry n presentation image s).pending = s.pending ∧
      (sendInquiry n presentation image s).hlc.slots = s.hlc.slots ∧
      (sendInquiry n presentation image s).hlc.running = s.hlc.running ∧
      (sendInquiry n presentation image s).hlc.flags = s.hlc.flags ∧
      (sendInquiry n presentation image s).iqu.link = s.iqu.link ∧
      mainOn (sendInquiry n presentation image s) = mainOn s ∧ (sendInquiry n presentation image s).now = s.now := by
  and_intros <;> (unfold sendInquiry; simp [mainOn, State.now])

@[simp] theorem enterInquiring_frame (n : LaneNo) (s : State) :
    (enterInquiring n s).ae = s.ae ∧ (enterInquiring n s).psc = s.psc ∧ (enterInquiring n s).iqu = s.iqu ∧
      (enterInquiring n s).sm = s.sm ∧ (enterInquiring n s).du = s.du ∧ (enterInquiring n s).ru = s.ru ∧
      (enterInquiring n s).lsu = s.lsu ∧ (enterInquiring n s).jnl = s.jnl ∧ (enterInquiring n s).hlc = s.hlc ∧
      (enterInquiring n s).sps = s.sps ∧ (enterInquiring n s).pins = s.pins ∧ (enterInquiring n s).store = s.store ∧
      (enterInquiring n s).ms = s.ms ∧ (enterInquiring n s).drawn = s.drawn ∧
      (enterInquiring n s).pending = s.pending ∧ mainOn (enterInquiring n s) = mainOn s ∧
      (enterInquiring n s).now = s.now := by
  and_intros <;> (unfold enterInquiring; simp [mainOn, State.now])

@[simp] theorem inquire_frame (n : LaneNo) (presentation : Nat) (image : List Byte) (origin : Origin) (s : State) :
    (inquire n presentation image origin s).du = s.du ∧ (inquire n presentation image origin s).ru = s.ru ∧
      (inquire n presentation image origin s).lsu = s.lsu ∧ (inquire n presentation image origin s).sps = s.sps ∧
      (inquire n presentation image origin s).pins = s.pins ∧
      (inquire n presentation image origin s).store = s.store ∧ (inquire n presentation image origin s).ms = s.ms ∧
      (inquire n presentation image origin s).drawn = s.drawn ∧
      (inquire n presentation image origin s).pending = s.pending ∧
      (inquire n presentation image origin s).jnl.records = s.jnl.records ∧
      (inquire n presentation image origin s).jnl.nextSeq = s.jnl.nextSeq ∧
      (inquire n presentation image origin s).psc.postings = s.psc.postings ∧
      (inquire n presentation image origin s).psc.state = s.psc.state ∧
      (inquire n presentation image origin s).hlc.slots = s.hlc.slots ∧
      (inquire n presentation image origin s).hlc.running = s.hlc.running ∧
      (inquire n presentation image origin s).iqu.link = s.iqu.link ∧
      mainOn (inquire n presentation image origin s) = mainOn s ∧ (inquire n presentation image origin s).now = s.now := by
  and_intros <;> (unfold inquire; first | (simp [mainOn, State.now]; done) | (try dsimp only) <;> (repeat' split) <;> simp [mainOn, State.now])

@[simp] theorem endInquiry_frame (p : PendingInquiry) (s : State) :
    (endInquiry p s).lanes = s.lanes ∧ (endInquiry p s).ae = s.ae ∧ (endInquiry p s).psc = s.psc ∧
      (endInquiry p s).sm = s.sm ∧ (endInquiry p s).du = s.du ∧ (endInquiry p s).ru = s.ru ∧
      (endInquiry p s).lsu = s.lsu ∧ (endInquiry p s).jnl = s.jnl ∧ (endInquiry p s).hlc = s.hlc ∧
      (endInquiry p s).sps = s.sps ∧ (endInquiry p s).pins = s.pins ∧ (endInquiry p s).store = s.store ∧
      (endInquiry p s).ms = s.ms ∧ (endInquiry p s).drawn = s.drawn ∧ (endInquiry p s).pending = s.pending ∧
      (endInquiry p s).iqu.link = s.iqu.link ∧ mainOn (endInquiry p s) = mainOn s ∧ (endInquiry p s).now = s.now := by
  and_intros <;> (unfold endInquiry; simp [mainOn, State.now])

@[simp] theorem nextInquiry_frame (s : State) :
    (nextInquiry s).lanes = s.lanes ∧ (nextInquiry s).ae = s.ae ∧ (nextInquiry s).psc = s.psc ∧
      (nextInquiry s).sm = s.sm ∧ (nextInquiry s).du = s.du ∧ (nextInquiry s).ru = s.ru ∧
      (nextInquiry s).lsu = s.lsu ∧ (nextInquiry s).jnl = s.jnl ∧ (nextInquiry s).sps = s.sps ∧
      (nextInquiry s).pins = s.pins ∧ (nextInquiry s).store = s.store ∧ (nextInquiry s).ms = s.ms ∧
      (nextInquiry s).drawn = s.drawn ∧ (nextInquiry s).pending = s.pending ∧
      (nextInquiry s).hlc.slots = s.hlc.slots ∧ (nextInquiry s).hlc.running = s.hlc.running ∧
      (nextInquiry s).hlc.flags = s.hlc.flags ∧ (nextInquiry s).iqu.link = s.iqu.link ∧
      mainOn (nextInquiry s) = mainOn s ∧ (nextInquiry s).now = s.now := by
  and_intros <;> (unfold nextInquiry; first | (simp [mainOn, State.now]; done) | (try dsimp only) <;> (repeat' split) <;> simp [mainOn, State.now])

@[simp] theorem policyForPending_frame (p : PendingInquiry) (s : State) :
    (policyForPending p s).du = s.du ∧ (policyForPending p s).ru = s.ru ∧ (policyForPending p s).lsu = s.lsu ∧
      (policyForPending p s).sps = s.sps ∧ (policyForPending p s).pins = s.pins ∧
      (policyForPending p s).store = s.store ∧ (policyForPending p s).ms = s.ms ∧
      (policyForPending p s).drawn = s.drawn ∧ (policyForPending p s).pending = s.pending ∧
      (policyForPending p s).jnl.records = s.jnl.records ∧ (policyForPending p s).jnl.nextSeq = s.jnl.nextSeq ∧
      (policyForPending p s).psc.postings = s.psc.postings ∧ (policyForPending p s).psc.state = s.psc.state ∧
      (policyForPending p s).hlc.slots = s.hlc.slots ∧ (policyForPending p s).hlc.running = s.hlc.running ∧
      (policyForPending p s).iqu.link = s.iqu.link ∧ mainOn (policyForPending p s) = mainOn s ∧
      (policyForPending p s).now = s.now := by
  and_intros <;> (unfold policyForPending; first | (simp [mainOn, State.now]; done) | (repeat' split) <;> simp [mainOn, State.now])

@[simp] theorem policyForWaiting_frame (es : List InquiryWait) (s : State) :
    (policyForWaiting es s).du = s.du ∧ (policyForWaiting es s).ru = s.ru ∧ (policyForWaiting es s).lsu = s.lsu ∧
      (policyForWaiting es s).sps = s.sps ∧ (policyForWaiting es s).pins = s.pins ∧
      (policyForWaiting es s).store = s.store ∧ (policyForWaiting es s).ms = s.ms ∧
      (policyForWaiting es s).drawn = s.drawn ∧ (policyForWaiting es s).pending = s.pending ∧
      (policyForWaiting es s).jnl.records = s.jnl.records ∧ (policyForWaiting es s).jnl.nextSeq = s.jnl.nextSeq ∧
      (policyForWaiting es s).psc.postings = s.psc.postings ∧ (policyForWaiting es s).psc.state = s.psc.state ∧
      (policyForWaiting es s).hlc.slots = s.hlc.slots ∧ (policyForWaiting es s).hlc.running = s.hlc.running ∧
      (policyForWaiting es s).iqu.link = s.iqu.link ∧ mainOn (policyForWaiting es s) = mainOn s ∧
      (policyForWaiting es s).now = s.now := by
  induction es generalizing s with
  | nil => simp [policyForWaiting]
  | cons x xs ih => simp [policyForWaiting, ih]

@[simp] theorem settleInquiries_frame (s : State) :
    (settleInquiries s).du = s.du ∧ (settleInquiries s).ru = s.ru ∧ (settleInquiries s).lsu = s.lsu ∧
      (settleInquiries s).sps = s.sps ∧ (settleInquiries s).pins = s.pins ∧ (settleInquiries s).store = s.store ∧
      (settleInquiries s).ms = s.ms ∧ (settleInquiries s).drawn = s.drawn ∧ (settleInquiries s).pending = s.pending ∧
      (settleInquiries s).jnl.records = s.jnl.records ∧ (settleInquiries s).jnl.nextSeq = s.jnl.nextSeq ∧
      (settleInquiries s).psc.postings = s.psc.postings ∧ (settleInquiries s).psc.state = s.psc.state ∧
      (settleInquiries s).hlc.slots = s.hlc.slots ∧ (settleInquiries s).hlc.running = s.hlc.running ∧
      mainOn (settleInquiries s) = mainOn s ∧ (settleInquiries s).now = s.now := by
  and_intros <;> (unfold settleInquiries; first | (simp [mainOn, State.now]; done) | (try dsimp only) <;> (repeat' split) <;> simp [mainOn, State.now])

@[simp] theorem laneResult_frame (n : LaneNo) (presentation : Nat) (r : LookupResult) (s : State) :
    (laneResult n presentation r s).du = s.du ∧ (laneResult n presentation r s).ru = s.ru ∧
      (laneResult n presentation r s).lsu = s.lsu ∧ (laneResult n presentation r s).sps = s.sps ∧
      (laneResult n presentation r s).pins = s.pins ∧ (laneResult n presentation r s).store = s.store ∧
      (laneResult n presentation r s).ms = s.ms ∧ (laneResult n presentation r s).drawn = s.drawn ∧
      (laneResult n presentation r s).pending = s.pending ∧
      (laneResult n presentation r s).jnl.records = s.jnl.records ∧
      (laneResult n presentation r s).jnl.nextSeq = s.jnl.nextSeq ∧
      (laneResult n presentation r s).psc.postings = s.psc.postings ∧
      (laneResult n presentation r s).psc.state = s.psc.state ∧
      (laneResult n presentation r s).hlc.slots = s.hlc.slots ∧
      (laneResult n presentation r s).hlc.running = s.hlc.running ∧
      (laneResult n presentation r s).iqu.link = s.iqu.link ∧ mainOn (laneResult n presentation r s) = mainOn s ∧
      (laneResult n presentation r s).now = s.now := by
  and_intros <;> (unfold laneResult; first | (simp [mainOn, State.now]; done) | (try dsimp only) <;> (repeat' split) <;> simp [mainOn, State.now])

@[simp] theorem laneLookup_frame (n : LaneNo) (pass : Nat) (s : State) :
    (laneLookup n pass s).du = s.du ∧ (laneLookup n pass s).ru = s.ru ∧ (laneLookup n pass s).lsu = s.lsu ∧
      (laneLookup n pass s).sps = s.sps ∧ (laneLookup n pass s).pins = s.pins ∧
      (laneLookup n pass s).store = s.store ∧ (laneLookup n pass s).ms = s.ms ∧
      (laneLookup n pass s).drawn = s.drawn ∧ (laneLookup n pass s).pending = s.pending ∧
      (laneLookup n pass s).jnl.records = s.jnl.records ∧ (laneLookup n pass s).jnl.nextSeq = s.jnl.nextSeq ∧
      (laneLookup n pass s).psc.postings = s.psc.postings ∧ (laneLookup n pass s).psc.state = s.psc.state ∧
      (laneLookup n pass s).hlc.slots = s.hlc.slots ∧ (laneLookup n pass s).hlc.running = s.hlc.running ∧
      (laneLookup n pass s).iqu.link = s.iqu.link ∧ mainOn (laneLookup n pass s) = mainOn s ∧
      (laneLookup n pass s).now = s.now := by
  and_intros <;> (unfold laneLookup; first | (simp [mainOn, State.now]; done) | (try dsimp only) <;> (repeat' split) <;> simp [mainOn, State.now])

@[simp] theorem checkImage_frame (n : LaneNo) (image : List Byte) (s : State) :
    (checkImage n image s).du = s.du ∧ (checkImage n image s).ru = s.ru ∧ (checkImage n image s).lsu = s.lsu ∧
      (checkImage n image s).sps = s.sps ∧ (checkImage n image s).pins = s.pins ∧
      (checkImage n image s).store = s.store ∧ (checkImage n image s).ms = s.ms ∧
      (checkImage n image s).drawn = s.drawn ∧ (checkImage n image s).pending = s.pending ∧
      (checkImage n image s).jnl.records = s.jnl.records ∧ (checkImage n image s).jnl.nextSeq = s.jnl.nextSeq ∧
      (checkImage n image s).psc.postings = s.psc.postings ∧ (checkImage n image s).psc.state = s.psc.state ∧
      (checkImage n image s).hlc.slots = s.hlc.slots ∧ (checkImage n image s).hlc.running = s.hlc.running ∧
      (checkImage n image s).iqu.link = s.iqu.link ∧ mainOn (checkImage n image s) = mainOn s ∧
      (checkImage n image s).now = s.now := by
  and_intros <;> (unfold checkImage; first | (simp [mainOn, State.now]; done) | (repeat' split) <;> simp [mainOn, State.now])

end Sys2Proof.Machine
end

