-- ==== Sys2Proof/Laws/FrameServices.lean ====
section
/-! SUPPORT. Frames of the operations of refunds, updates and the services of the store: what each leaves as it was, one simp lemma an operation. -/

namespace Sys2Proof.Machine
-- one theorem at a time: the package as one text elaborates within the memory limit
set_option Elab.async false
open Sys2Proof.Config

@[simp] theorem decideQuote_frame (k : SlotNo) (result : LookupResult) (s : State) :
    (decideQuote k result s).lanes = s.lanes ∧ (decideQuote k result s).ae = s.ae ∧
      (decideQuote k result s).psc = s.psc ∧ (decideQuote k result s).iqu = s.iqu ∧
      (decideQuote k result s).sm = s.sm ∧ (decideQuote k result s).du = s.du ∧ (decideQuote k result s).ru = s.ru ∧
      (decideQuote k result s).lsu = s.lsu ∧ (decideQuote k result s).jnl = s.jnl ∧
      (decideQuote k result s).sps = s.sps ∧ (decideQuote k result s).pins = s.pins ∧
      (decideQuote k result s).store = s.store ∧ (decideQuote k result s).ms = s.ms ∧
      (decideQuote k result s).drawn = s.drawn ∧ (decideQuote k result s).pending = s.pending ∧
      (decideQuote k result s).hlc.running = s.hlc.running ∧ (decideQuote k result s).hlc.flags = s.hlc.flags ∧
      mainOn (decideQuote k result s) = mainOn s ∧ (decideQuote k result s).now = s.now := by
  and_intros <;> (unfold decideQuote; simp [mainOn, State.now])

@[simp] theorem refuseCommit_frame (k : SlotNo) (st : Status) (f : RefundFigures) (s : State) :
    (refuseCommit k st f s).du = s.du ∧ (refuseCommit k st f s).lsu = s.lsu ∧ (refuseCommit k st f s).sps = s.sps ∧
      (refuseCommit k st f s).pins = s.pins ∧ (refuseCommit k st f s).store = s.store ∧
      (refuseCommit k st f s).ms = s.ms ∧ (refuseCommit k st f s).drawn = s.drawn ∧
      (refuseCommit k st f s).pending = s.pending ∧ (refuseCommit k st f s).jnl.records = s.jnl.records ∧
      (refuseCommit k st f s).jnl.nextSeq = s.jnl.nextSeq ∧ (refuseCommit k st f s).psc.postings = s.psc.postings ∧
      (refuseCommit k st f s).psc.state = s.psc.state ∧ (refuseCommit k st f s).hlc.running = s.hlc.running ∧
      (refuseCommit k st f s).iqu.link = s.iqu.link ∧ mainOn (refuseCommit k st f s) = mainOn s ∧
      (refuseCommit k st f s).now = s.now := by
  and_intros <;> (unfold refuseCommit; simp [mainOn, State.now])

@[simp] theorem completeCommit_frame (c : Commit) (f : RefundFigures) (s : State) :
    (completeCommit c f s).lanes = s.lanes ∧ (completeCommit c f s).iqu = s.iqu ∧
      (completeCommit c f s).sm = s.sm ∧ (completeCommit c f s).du = s.du ∧ (completeCommit c f s).lsu = s.lsu ∧
      (completeCommit c f s).pins = s.pins ∧ (completeCommit c f s).store = s.store ∧
      (completeCommit c f s).ms = s.ms ∧ (completeCommit c f s).drawn = s.drawn ∧
      (completeCommit c f s).pending = s.pending ∧ (completeCommit c f s).psc.state = s.psc.state ∧
      (completeCommit c f s).hlc.running = s.hlc.running ∧ (completeCommit c f s).sps.bank = s.sps.bank ∧
      (completeCommit c f s).sps.schedule = s.sps.schedule ∧ (completeCommit c f s).sps.products = s.sps.products ∧
      (completeCommit c f s).sps.supply = s.sps.supply ∧ (completeCommit c f s).sps.cause = s.sps.cause ∧
      (completeCommit c f s).sps.straps = s.sps.straps ∧ (completeCommit c f s).sps.resetHeld = s.sps.resetHeld ∧
      (completeCommit c f s).sps.retainedLost = s.sps.retainedLost ∧ mainOn (completeCommit c f s) = mainOn s ∧
      (completeCommit c f s).now = s.now := by
  and_intros <;> (unfold completeCommit; simp [mainOn, State.now])

@[simp] theorem decideCommit_frame (k : SlotNo) (result : LookupResult) (s : State) :
    (decideCommit k result s).du = s.du ∧ (decideCommit k result s).lsu = s.lsu ∧
      (decideCommit k result s).pins = s.pins ∧ (decideCommit k result s).store = s.store ∧
      (decideCommit k result s).ms = s.ms ∧ (decideCommit k result s).drawn = s.drawn ∧
      (decideCommit k result s).pending = s.pending ∧ (decideCommit k result s).psc.state = s.psc.state ∧
      (decideCommit k result s).hlc.running = s.hlc.running ∧ (decideCommit k result s).iqu.link = s.iqu.link ∧
      (decideCommit k result s).sps.bank = s.sps.bank ∧ (decideCommit k result s).sps.schedule = s.sps.schedule ∧
      (decideCommit k result s).sps.products = s.sps.products ∧ (decideCommit k result s).sps.supply = s.sps.supply ∧
      (decideCommit k result s).sps.cause = s.sps.cause ∧ (decideCommit k result s).sps.straps = s.sps.straps ∧
      (decideCommit k result s).sps.resetHeld = s.sps.resetHeld ∧
      (decideCommit k result s).sps.retainedLost = s.sps.retainedLost ∧ mainOn (decideCommit k result s) = mainOn s ∧
      (decideCommit k result s).now = s.now := by
  and_intros <;> (unfold decideCommit; first | (simp [mainOn, State.now]; done) | (repeat' split) <;> simp [mainOn, State.now])

@[simp] theorem decidePassPut_frame (k : SlotNo) (raw : RawRecord) (result : LookupResult) (s : State) :
    (decidePassPut k raw result s).ae = s.ae ∧ (decidePassPut k raw result s).du = s.du ∧
      (decidePassPut k raw result s).ru = s.ru ∧ (decidePassPut k raw result s).lsu = s.lsu ∧
      (decidePassPut k raw result s).sps = s.sps ∧ (decidePassPut k raw result s).pins = s.pins ∧
      (decidePassPut k raw result s).store = s.store ∧ (decidePassPut k raw result s).ms = s.ms ∧
      (decidePassPut k raw result s).drawn = s.drawn ∧ (decidePassPut k raw result s).pending = s.pending ∧
      (decidePassPut k raw result s).jnl.records = s.jnl.records ∧
      (decidePassPut k raw result s).jnl.nextSeq = s.jnl.nextSeq ∧
      (decidePassPut k raw result s).psc.state = s.psc.state ∧
      (decidePassPut k raw result s).hlc.running = s.hlc.running ∧
      (decidePassPut k raw result s).iqu.link = s.iqu.link ∧ mainOn (decidePassPut k raw result s) = mainOn s ∧
      (decidePassPut k raw result s).now = s.now := by
  and_intros <;> (unfold decidePassPut; first | (simp [mainOn, State.now]; done) | (try dsimp only) <;> (repeat' split) <;> simp [mainOn, State.now])

@[simp] theorem decideInstall_frame (k : SlotNo) (classified : Status) (raw : RawRecord) (result : LookupResult) (s : State) :
    (decideInstall k classified raw result s).ae = s.ae ∧ (decideInstall k classified raw result s).du = s.du ∧
      (decideInstall k classified raw result s).ru = s.ru ∧ (decideInstall k classified raw result s).lsu = s.lsu ∧
      (decideInstall k classified raw result s).sps = s.sps ∧
      (decideInstall k classified raw result s).pins = s.pins ∧
      (decideInstall k classified raw result s).store = s.store ∧
      (decideInstall k classified raw result s).ms = s.ms ∧
      (decideInstall k classified raw result s).drawn = s.drawn ∧
      (decideInstall k classified raw result s).pending = s.pending ∧
      (decideInstall k classified raw result s).jnl.records = s.jnl.records ∧
      (decideInstall k classified raw result s).jnl.nextSeq = s.jnl.nextSeq ∧
      (decideInstall k classified raw result s).psc.state = s.psc.state ∧
      (decideInstall k classified raw result s).hlc.running = s.hlc.running ∧
      (decideInstall k classified raw result s).iqu.link = s.iqu.link ∧
      mainOn (decideInstall k classified raw result s) = mainOn s ∧
      (decideInstall k classified raw result s).now = s.now := by
  and_intros <;> (unfold decideInstall; first | (simp [mainOn, State.now]; done) | (try dsimp only) <;> (repeat' split) <;> simp [mainOn, State.now])

@[simp] theorem decideMerge_frame (k : SlotNo) (m : RawMerge) (result : LookupResult) (s : State) :
    (decideMerge k m result s).ae = s.ae ∧ (decideMerge k m result s).du = s.du ∧
      (decideMerge k m result s).ru = s.ru ∧ (decideMerge k m result s).lsu = s.lsu ∧
      (decideMerge k m result s).sps = s.sps ∧ (decideMerge k m result s).pins = s.pins ∧
      (decideMerge k m result s).store = s.store ∧ (decideMerge k m result s).ms = s.ms ∧
      (decideMerge k m result s).drawn = s.drawn ∧ (decideMerge k m result s).pending = s.pending ∧
      (decideMerge k m result s).jnl.records = s.jnl.records ∧
      (decideMerge k m result s).jnl.nextSeq = s.jnl.nextSeq ∧ (decideMerge k m result s).psc.state = s.psc.state ∧
      (decideMerge k m result s).hlc.running = s.hlc.running ∧ (decideMerge k m result s).iqu.link = s.iqu.link ∧
      mainOn (decideMerge k m result s) = mainOn s ∧ (decideMerge k m result s).now = s.now := by
  and_intros <;> (unfold decideMerge; first | (simp [mainOn, State.now]; done) | (try dsimp only) <;> (repeat' split) <;> simp [mainOn, State.now])

@[simp] theorem decideStatus_frame (k : SlotNo) (pass : Nat) (st : PassStatus) (amount : Option Nat) (result : LookupResult) (s : State) :
    (decideStatus k pass st amount result s).ae = s.ae ∧ (decideStatus k pass st amount result s).du = s.du ∧
      (decideStatus k pass st amount result s).ru = s.ru ∧ (decideStatus k pass st amount result s).lsu = s.lsu ∧
      (decideStatus k pass st amount result s).sps = s.sps ∧ (decideStatus k pass st amount result s).pins = s.pins ∧
      (decideStatus k pass st amount result s).store = s.store ∧ (decideStatus k pass st amount result s).ms = s.ms ∧
      (decideStatus k pass st amount result s).drawn = s.drawn ∧
      (decideStatus k pass st amount result s).pending = s.pending ∧
      (decideStatus k pass st amount result s).jnl.records = s.jnl.records ∧
      (decideStatus k pass st amount result s).jnl.nextSeq = s.jnl.nextSeq ∧
      (decideStatus k pass st amount result s).psc.state = s.psc.state ∧
      (decideStatus k pass st amount result s).hlc.running = s.hlc.running ∧
      (decideStatus k pass st amount result s).iqu.link = s.iqu.link ∧
      mainOn (decideStatus k pass st amount result s) = mainOn s ∧
      (decideStatus k pass st amount result s).now = s.now := by
  and_intros <;> (unfold decideStatus; first | (simp [mainOn, State.now]; done) | (repeat' split) <;> simp [mainOn, State.now])

@[simp] theorem decideDrop_frame (k : SlotNo) (pass : Nat) (result : LookupResult) (s : State) :
    (decideDrop k pass result s).ae = s.ae ∧ (decideDrop k pass result s).du = s.du ∧
      (decideDrop k pass result s).ru = s.ru ∧ (decideDrop k pass result s).lsu = s.lsu ∧
      (decideDrop k pass result s).sps = s.sps ∧ (decideDrop k pass result s).pins = s.pins ∧
      (decideDrop k pass result s).store = s.store ∧ (decideDrop k pass result s).ms = s.ms ∧
      (decideDrop k pass result s).drawn = s.drawn ∧ (decideDrop k pass result s).pending = s.pending ∧
      (decideDrop k pass result s).jnl.records = s.jnl.records ∧
      (decideDrop k pass result s).jnl.nextSeq = s.jnl.nextSeq ∧
      (decideDrop k pass result s).psc.state = s.psc.state ∧
      (decideDrop k pass result s).hlc.running = s.hlc.running ∧ (decideDrop k pass result s).iqu.link = s.iqu.link ∧
      mainOn (decideDrop k pass result s) = mainOn s ∧ (decideDrop k pass result s).now = s.now := by
  and_intros <;> (unfold decideDrop; first | (simp [mainOn, State.now]; done) | (repeat' split) <;> simp [mainOn, State.now])

@[simp] theorem decideRead_frame (k : SlotNo) (pass : Nat) (result : LookupResult) (s : State) :
    (decideRead k pass result s).lanes = s.lanes ∧ (decideRead k pass result s).ae = s.ae ∧
      (decideRead k pass result s).psc = s.psc ∧ (decideRead k pass result s).iqu = s.iqu ∧
      (decideRead k pass result s).sm = s.sm ∧ (decideRead k pass result s).du = s.du ∧
      (decideRead k pass result s).ru = s.ru ∧ (decideRead k pass result s).lsu = s.lsu ∧
      (decideRead k pass result s).jnl = s.jnl ∧ (decideRead k pass result s).sps = s.sps ∧
      (decideRead k pass result s).pins = s.pins ∧ (decideRead k pass result s).store = s.store ∧
      (decideRead k pass result s).ms = s.ms ∧ (decideRead k pass result s).drawn = s.drawn ∧
      (decideRead k pass result s).pending = s.pending ∧ (decideRead k pass result s).hlc.running = s.hlc.running ∧
      (decideRead k pass result s).hlc.flags = s.hlc.flags ∧ mainOn (decideRead k pass result s) = mainOn s ∧
      (decideRead k pass result s).now = s.now := by
  and_intros <;> (unfold decideRead; first | (simp [mainOn, State.now]; done) | (repeat' split) <;> simp [mainOn, State.now])

@[simp] theorem serviceResult_frame (k : SlotNo) (result : LookupResult) (s : State) :
    (serviceResult k result s).du = s.du ∧ (serviceResult k result s).lsu = s.lsu ∧
      (serviceResult k result s).pins = s.pins ∧ (serviceResult k result s).store = s.store ∧
      (serviceResult k result s).ms = s.ms ∧ (serviceResult k result s).drawn = s.drawn ∧
      (serviceResult k result s).pending = s.pending ∧ (serviceResult k result s).psc.state = s.psc.state ∧
      (serviceResult k result s).hlc.running = s.hlc.running ∧ (serviceResult k result s).iqu.link = s.iqu.link ∧
      (serviceResult k result s).sps.bank = s.sps.bank ∧ (serviceResult k result s).sps.schedule = s.sps.schedule ∧
      (serviceResult k result s).sps.products = s.sps.products ∧
      (serviceResult k result s).sps.supply = s.sps.supply ∧ (serviceResult k result s).sps.cause = s.sps.cause ∧
      (serviceResult k result s).sps.straps = s.sps.straps ∧
      (serviceResult k result s).sps.resetHeld = s.sps.resetHeld ∧
      (serviceResult k result s).sps.retainedLost = s.sps.retainedLost ∧
      mainOn (serviceResult k result s) = mainOn s ∧ (serviceResult k result s).now = s.now := by
  and_intros <;> (unfold serviceResult; first | (simp [mainOn, State.now]; done) | (repeat' split) <;> simp [mainOn, State.now])

@[simp] theorem handOver_frame (r : Requester) (result : LookupResult) (s : State) :
    (handOver r result s).du = s.du ∧ (handOver r result s).lsu = s.lsu ∧ (handOver r result s).pins = s.pins ∧
      (handOver r result s).store = s.store ∧ (handOver r result s).ms = s.ms ∧
      (handOver r result s).drawn = s.drawn ∧ (handOver r result s).pending = s.pending ∧
      (handOver r result s).psc.state = s.psc.state ∧ (handOver r result s).hlc.running = s.hlc.running ∧
      (handOver r result s).iqu.link = s.iqu.link ∧ (handOver r result s).sps.bank = s.sps.bank ∧
      (handOver r result s).sps.schedule = s.sps.schedule ∧ (handOver r result s).sps.products = s.sps.products ∧
      (handOver r result s).sps.supply = s.sps.supply ∧ (handOver r result s).sps.cause = s.sps.cause ∧
      (handOver r result s).sps.straps = s.sps.straps ∧ (handOver r result s).sps.resetHeld = s.sps.resetHeld ∧
      (handOver r result s).sps.retainedLost = s.sps.retainedLost ∧ mainOn (handOver r result s) = mainOn s ∧
      (handOver r result s).now = s.now := by
  and_intros <;> (unfold handOver; first | (simp [mainOn, State.now]; done) | (repeat' split) <;> simp [mainOn, State.now])

@[simp] theorem serviceLookup_frame (k : SlotNo) (pass : Nat) (occupancy : Bool) (s : State) :
    (serviceLookup k pass occupancy s).du = s.du ∧ (serviceLookup k pass occupancy s).lsu = s.lsu ∧
      (serviceLookup k pass occupancy s).pins = s.pins ∧ (serviceLookup k pass occupancy s).store = s.store ∧
      (serviceLookup k pass occupancy s).ms = s.ms ∧ (serviceLookup k pass occupancy s).drawn = s.drawn ∧
      (serviceLookup k pass occupancy s).pending = s.pending ∧
      (serviceLookup k pass occupancy s).psc.state = s.psc.state ∧
      (serviceLookup k pass occupancy s).hlc.running = s.hlc.running ∧
      (serviceLookup k pass occupancy s).iqu.link = s.iqu.link ∧
      (serviceLookup k pass occupancy s).sps.bank = s.sps.bank ∧
      (serviceLookup k pass occupancy s).sps.schedule = s.sps.schedule ∧
      (serviceLookup k pass occupancy s).sps.products = s.sps.products ∧
      (serviceLookup k pass occupancy s).sps.supply = s.sps.supply ∧
      (serviceLookup k pass occupancy s).sps.cause = s.sps.cause ∧
      (serviceLookup k pass occupancy s).sps.straps = s.sps.straps ∧
      (serviceLookup k pass occupancy s).sps.resetHeld = s.sps.resetHeld ∧
      (serviceLookup k pass occupancy s).sps.retainedLost = s.sps.retainedLost ∧
      mainOn (serviceLookup k pass occupancy s) = mainOn s ∧ (serviceLookup k pass occupancy s).now = s.now := by
  and_intros <;> (unfold serviceLookup; first | (simp [mainOn, State.now]; done) | (try dsimp only) <;> (repeat' split) <;> simp [mainOn, State.now])

@[simp] theorem installLookup_frame (k : SlotNo) (classified : Status) (pass : Nat) (s : State) :
    (installLookup k classified pass s).du = s.du ∧ (installLookup k classified pass s).lsu = s.lsu ∧
      (installLookup k classified pass s).pins = s.pins ∧ (installLookup k classified pass s).store = s.store ∧
      (installLookup k classified pass s).ms = s.ms ∧ (installLookup k classified pass s).drawn = s.drawn ∧
      (installLookup k classified pass s).pending = s.pending ∧
      (installLookup k classified pass s).psc.state = s.psc.state ∧
      (installLookup k classified pass s).hlc.running = s.hlc.running ∧
      (installLookup k classified pass s).iqu.link = s.iqu.link ∧
      (installLookup k classified pass s).sps.bank = s.sps.bank ∧
      (installLookup k classified pass s).sps.schedule = s.sps.schedule ∧
      (installLookup k classified pass s).sps.products = s.sps.products ∧
      (installLookup k classified pass s).sps.supply = s.sps.supply ∧
      (installLookup k classified pass s).sps.cause = s.sps.cause ∧
      (installLookup k classified pass s).sps.straps = s.sps.straps ∧
      (installLookup k classified pass s).sps.resetHeld = s.sps.resetHeld ∧
      (installLookup k classified pass s).sps.retainedLost = s.sps.retainedLost ∧
      mainOn (installLookup k classified pass s) = mainOn s ∧ (installLookup k classified pass s).now = s.now := by
  and_intros <;> (unfold installLookup; first | (simp [mainOn, State.now]; done) | (try dsimp only) <;> (repeat' split) <;> simp [mainOn, State.now])

@[simp] theorem completeLookup_frame (l : Lookup) (s : State) :
    (completeLookup l s).du = s.du ∧ (completeLookup l s).lsu = s.lsu ∧ (completeLookup l s).pins = s.pins ∧
      (completeLookup l s).store = s.store ∧ (completeLookup l s).ms = s.ms ∧ (completeLookup l s).drawn = s.drawn ∧
      (completeLookup l s).pending = s.pending ∧ (completeLookup l s).psc.state = s.psc.state ∧
      (completeLookup l s).hlc.running = s.hlc.running ∧ (completeLookup l s).iqu.link = s.iqu.link ∧
      (completeLookup l s).sps.bank = s.sps.bank ∧ (completeLookup l s).sps.schedule = s.sps.schedule ∧
      (completeLookup l s).sps.products = s.sps.products ∧ (completeLookup l s).sps.supply = s.sps.supply ∧
      (completeLookup l s).sps.cause = s.sps.cause ∧ (completeLookup l s).sps.straps = s.sps.straps ∧
      (completeLookup l s).sps.resetHeld = s.sps.resetHeld ∧
      (completeLookup l s).sps.retainedLost = s.sps.retainedLost ∧ mainOn (completeLookup l s) = mainOn s ∧
      (completeLookup l s).now = s.now := by
  and_intros <;> (unfold completeLookup; simp [mainOn, State.now])

@[simp] theorem failLookups_frame (ls : List Lookup) (s : State) :
    (failLookups ls s).du = s.du ∧ (failLookups ls s).lsu = s.lsu ∧ (failLookups ls s).pins = s.pins ∧
      (failLookups ls s).store = s.store ∧ (failLookups ls s).ms = s.ms ∧ (failLookups ls s).drawn = s.drawn ∧
      (failLookups ls s).pending = s.pending ∧ (failLookups ls s).psc.state = s.psc.state ∧
      (failLookups ls s).hlc.running = s.hlc.running ∧ (failLookups ls s).iqu.link = s.iqu.link ∧
      (failLookups ls s).sps.bank = s.sps.bank ∧ (failLookups ls s).sps.schedule = s.sps.schedule ∧
      (failLookups ls s).sps.products = s.sps.products ∧ (failLookups ls s).sps.supply = s.sps.supply ∧
      (failLookups ls s).sps.cause = s.sps.cause ∧ (failLookups ls s).sps.straps = s.sps.straps ∧
      (failLookups ls s).sps.resetHeld = s.sps.resetHeld ∧ (failLookups ls s).sps.retainedLost = s.sps.retainedLost ∧
      mainOn (failLookups ls s) = mainOn s ∧ (failLookups ls s).now = s.now := by
  induction ls generalizing s with
  | nil => simp [failLookups]
  | cons x xs ih => simp [failLookups, ih]

@[simp] theorem enterFaulted_frame (s : State) :
    (enterFaulted s).lanes = s.lanes ∧ (enterFaulted s).ae = s.ae ∧ (enterFaulted s).iqu = s.iqu ∧
      (enterFaulted s).sm = s.sm ∧ (enterFaulted s).du = s.du ∧ (enterFaulted s).ru = s.ru ∧
      (enterFaulted s).lsu = s.lsu ∧ (enterFaulted s).jnl = s.jnl ∧ (enterFaulted s).sps = s.sps ∧
      (enterFaulted s).pins = s.pins ∧ (enterFaulted s).store = s.store ∧ (enterFaulted s).ms = s.ms ∧
      (enterFaulted s).drawn = s.drawn ∧ (enterFaulted s).pending = s.pending ∧
      (enterFaulted s).psc.postings = s.psc.postings ∧ (enterFaulted s).psc.credits = s.psc.credits ∧
      (enterFaulted s).hlc.slots = s.hlc.slots ∧ (enterFaulted s).hlc.running = s.hlc.running ∧
      mainOn (enterFaulted s) = mainOn s ∧ (enterFaulted s).now = s.now := by
  and_intros <;> (unfold enterFaulted; simp [mainOn, State.now])

@[simp] theorem failQueued_frame (s : State) :
    (failQueued s).du = s.du ∧ (failQueued s).lsu = s.lsu ∧ (failQueued s).pins = s.pins ∧
      (failQueued s).store = s.store ∧ (failQueued s).ms = s.ms ∧ (failQueued s).drawn = s.drawn ∧
      (failQueued s).pending = s.pending ∧ (failQueued s).psc.state = s.psc.state ∧
      (failQueued s).hlc.running = s.hlc.running ∧ (failQueued s).iqu.link = s.iqu.link ∧
      (failQueued s).sps.bank = s.sps.bank ∧ (failQueued s).sps.schedule = s.sps.schedule ∧
      (failQueued s).sps.products = s.sps.products ∧ (failQueued s).sps.supply = s.sps.supply ∧
      (failQueued s).sps.cause = s.sps.cause ∧ (failQueued s).sps.straps = s.sps.straps ∧
      (failQueued s).sps.resetHeld = s.sps.resetHeld ∧ (failQueued s).sps.retainedLost = s.sps.retainedLost ∧
      mainOn (failQueued s) = mainOn s ∧ (failQueued s).now = s.now := by
  and_intros <;> (unfold failQueued; simp [mainOn, State.now])

@[simp] theorem removePosting_frame (s : State) :
    (removePosting s).ae = s.ae ∧ (removePosting s).du = s.du ∧ (removePosting s).ru = s.ru ∧
      (removePosting s).lsu = s.lsu ∧ (removePosting s).sps = s.sps ∧ (removePosting s).pins = s.pins ∧
      (removePosting s).store = s.store ∧ (removePosting s).ms = s.ms ∧ (removePosting s).drawn = s.drawn ∧
      (removePosting s).pending = s.pending ∧ (removePosting s).jnl.records = s.jnl.records ∧
      (removePosting s).jnl.nextSeq = s.jnl.nextSeq ∧ (removePosting s).psc.state = s.psc.state ∧
      (removePosting s).hlc.slots = s.hlc.slots ∧ (removePosting s).hlc.running = s.hlc.running ∧
      (removePosting s).iqu.link = s.iqu.link ∧ mainOn (removePosting s) = mainOn s ∧ (removePosting s).now = s.now := by
  and_intros <;> (unfold removePosting; simp [mainOn, State.now])

@[simp] theorem loseHead_frame (s : State) :
    (loseHead s).ae = s.ae ∧ (loseHead s).du = s.du ∧ (loseHead s).ru = s.ru ∧ (loseHead s).lsu = s.lsu ∧
      (loseHead s).pins = s.pins ∧ (loseHead s).store = s.store ∧ (loseHead s).ms = s.ms ∧
      (loseHead s).drawn = s.drawn ∧ (loseHead s).pending = s.pending ∧ (loseHead s).psc.state = s.psc.state ∧
      (loseHead s).hlc.slots = s.hlc.slots ∧ (loseHead s).hlc.running = s.hlc.running ∧
      (loseHead s).iqu.link = s.iqu.link ∧ (loseHead s).sps.bank = s.sps.bank ∧
      (loseHead s).sps.schedule = s.sps.schedule ∧ (loseHead s).sps.products = s.sps.products ∧
      (loseHead s).sps.supply = s.sps.supply ∧ (loseHead s).sps.cause = s.sps.cause ∧
      (loseHead s).sps.straps = s.sps.straps ∧ (loseHead s).sps.resetHeld = s.sps.resetHeld ∧
      (loseHead s).sps.retainedLost = s.sps.retainedLost ∧ mainOn (loseHead s) = mainOn s ∧ (loseHead s).now = s.now := by
  and_intros <;> (unfold loseHead; first | (simp [mainOn, State.now]; done) | (repeat' split) <;> simp [mainOn, State.now])

@[simp] theorem secondFailure_frame (op : StoreOp) (s : State) :
    (secondFailure op s).du = s.du ∧ (secondFailure op s).lsu = s.lsu ∧ (secondFailure op s).pins = s.pins ∧
      (secondFailure op s).store = s.store ∧ (secondFailure op s).ms = s.ms ∧ (secondFailure op s).drawn = s.drawn ∧
      (secondFailure op s).pending = s.pending ∧ (secondFailure op s).hlc.running = s.hlc.running ∧
      (secondFailure op s).iqu.link = s.iqu.link ∧ (secondFailure op s).sps.bank = s.sps.bank ∧
      (secondFailure op s).sps.schedule = s.sps.schedule ∧ (secondFailure op s).sps.products = s.sps.products ∧
      (secondFailure op s).sps.supply = s.sps.supply ∧ (secondFailure op s).sps.cause = s.sps.cause ∧
      (secondFailure op s).sps.straps = s.sps.straps ∧ (secondFailure op s).sps.resetHeld = s.sps.resetHeld ∧
      (secondFailure op s).sps.retainedLost = s.sps.retainedLost ∧ mainOn (secondFailure op s) = mainOn s ∧
      (secondFailure op s).now = s.now := by
  and_intros <;> (unfold secondFailure; first | (simp [mainOn, State.now]; done) | (try dsimp only) <;> (repeat' split) <;> simp [mainOn, State.now])

@[simp] theorem firstFailure_frame (op : StoreOp) (s : State) :
    (firstFailure op s).lanes = s.lanes ∧ (firstFailure op s).ae = s.ae ∧ (firstFailure op s).iqu = s.iqu ∧
      (firstFailure op s).sm = s.sm ∧ (firstFailure op s).du = s.du ∧ (firstFailure op s).ru = s.ru ∧
      (firstFailure op s).lsu = s.lsu ∧ (firstFailure op s).hlc = s.hlc ∧ (firstFailure op s).sps = s.sps ∧
      (firstFailure op s).pins = s.pins ∧ (firstFailure op s).store = s.store ∧ (firstFailure op s).ms = s.ms ∧
      (firstFailure op s).drawn = s.drawn ∧ (firstFailure op s).pending = s.pending ∧
      (firstFailure op s).jnl.records = s.jnl.records ∧ (firstFailure op s).jnl.nextSeq = s.jnl.nextSeq ∧
      (firstFailure op s).jnl.credits = s.jnl.credits ∧ (firstFailure op s).psc.postings = s.psc.postings ∧
      (firstFailure op s).psc.credits = s.psc.credits ∧ (firstFailure op s).psc.state = s.psc.state ∧
      mainOn (firstFailure op s) = mainOn s ∧ (firstFailure op s).now = s.now := by
  and_intros <;> (unfold firstFailure; first | (simp [mainOn, State.now]; done) | (try dsimp only) <;> (repeat' split) <;> simp [mainOn, State.now])

@[simp] theorem failOperation_frame (s : State) :
    (failOperation s).du = s.du ∧ (failOperation s).lsu = s.lsu ∧ (failOperation s).pins = s.pins ∧
      (failOperation s).ms = s.ms ∧ (failOperation s).pending = s.pending ∧
      (failOperation s).hlc.running = s.hlc.running ∧ (failOperation s).iqu.link = s.iqu.link ∧
      (failOperation s).sps.bank = s.sps.bank ∧ (failOperation s).sps.schedule = s.sps.schedule ∧
      (failOperation s).sps.products = s.sps.products ∧ (failOperation s).sps.supply = s.sps.supply ∧
      (failOperation s).sps.cause = s.sps.cause ∧ (failOperation s).sps.straps = s.sps.straps ∧
      (failOperation s).sps.resetHeld = s.sps.resetHeld ∧ (failOperation s).sps.retainedLost = s.sps.retainedLost ∧
      mainOn (failOperation s) = mainOn s ∧ (failOperation s).now = s.now := by
  and_intros <;> (unfold failOperation; first | (simp [mainOn, State.now]; done) | (try dsimp only) <;> (repeat' split) <;> simp [mainOn, State.now])

@[simp] theorem mountFails_frame (s : State) :
    (mountFails s).du = s.du ∧ (mountFails s).lsu = s.lsu ∧ (mountFails s).pins = s.pins ∧
      (mountFails s).store = s.store ∧ (mountFails s).ms = s.ms ∧ (mountFails s).drawn = s.drawn ∧
      (mountFails s).pending = s.pending ∧ (mountFails s).hlc.running = s.hlc.running ∧
      (mountFails s).iqu.link = s.iqu.link ∧ (mountFails s).sps.bank = s.sps.bank ∧
      (mountFails s).sps.schedule = s.sps.schedule ∧ (mountFails s).sps.products = s.sps.products ∧
      (mountFails s).sps.supply = s.sps.supply ∧ (mountFails s).sps.cause = s.sps.cause ∧
      (mountFails s).sps.straps = s.sps.straps ∧ (mountFails s).sps.resetHeld = s.sps.resetHeld ∧
      (mountFails s).sps.retainedLost = s.sps.retainedLost ∧ mainOn (mountFails s) = mainOn s ∧
      (mountFails s).now = s.now := by
  and_intros <;> (unfold mountFails; simp [mainOn, State.now])

@[simp] theorem enterReady_frame (formatNo : Nat) (s : State) :
    (enterReady formatNo s).lanes = s.lanes ∧ (enterReady formatNo s).ae = s.ae ∧
      (enterReady formatNo s).iqu = s.iqu ∧ (enterReady formatNo s).sm = s.sm ∧ (enterReady formatNo s).du = s.du ∧
      (enterReady formatNo s).ru = s.ru ∧ (enterReady formatNo s).lsu = s.lsu ∧ (enterReady formatNo s).jnl = s.jnl ∧
      (enterReady formatNo s).hlc = s.hlc ∧ (enterReady formatNo s).sps = s.sps ∧
      (enterReady formatNo s).pins = s.pins ∧ (enterReady formatNo s).store = s.store ∧
      (enterReady formatNo s).ms = s.ms ∧ (enterReady formatNo s).drawn = s.drawn ∧
      (enterReady formatNo s).pending = s.pending ∧ (enterReady formatNo s).psc.postings = s.psc.postings ∧
      (enterReady formatNo s).psc.credits = s.psc.credits ∧ mainOn (enterReady formatNo s) = mainOn s ∧
      (enterReady formatNo s).now = s.now := by
  and_intros <;> (unfold enterReady; simp [mainOn, State.now])

@[simp] theorem rebuildLog_frame (s : State) :
    (rebuildLog s).lanes = s.lanes ∧ (rebuildLog s).ae = s.ae ∧ (rebuildLog s).psc = s.psc ∧
      (rebuildLog s).iqu = s.iqu ∧ (rebuildLog s).sm = s.sm ∧ (rebuildLog s).ru = s.ru ∧ (rebuildLog s).lsu = s.lsu ∧
      (rebuildLog s).jnl = s.jnl ∧ (rebuildLog s).hlc = s.hlc ∧ (rebuildLog s).sps = s.sps ∧
      (rebuildLog s).pins = s.pins ∧ (rebuildLog s).store = s.store ∧ (rebuildLog s).ms = s.ms ∧
      (rebuildLog s).drawn = s.drawn ∧ (rebuildLog s).pending = s.pending ∧ (rebuildLog s).du.sec = s.du.sec ∧
      (rebuildLog s).du.day = s.du.day ∧ mainOn (rebuildLog s) = mainOn s ∧ (rebuildLog s).now = s.now := by
  and_intros <;> (unfold rebuildLog; simp [mainOn, State.now])

end Sys2Proof.Machine
end

