-- ==== Sys2Proof/Laws/FrameSupply.lean ====
section
/-! SUPPORT. Frames of the operations of supply losses and restarts: what each leaves as it was, one simp lemma an operation. -/

namespace Sys2Proof.Machine
-- one theorem at a time: the package as one text elaborates within the memory limit
set_option Elab.async false
open Sys2Proof.Config

@[simp] theorem dropGrant_frame (n : LaneNo) (s : State) :
    (dropGrant n s).lanes = s.lanes ∧ (dropGrant n s).ae = s.ae ∧ (dropGrant n s).iqu = s.iqu ∧
      (dropGrant n s).sm = s.sm ∧ (dropGrant n s).du = s.du ∧ (dropGrant n s).ru = s.ru ∧
      (dropGrant n s).lsu = s.lsu ∧ (dropGrant n s).hlc = s.hlc ∧ (dropGrant n s).sps = s.sps ∧
      (dropGrant n s).pins = s.pins ∧ (dropGrant n s).store = s.store ∧ (dropGrant n s).ms = s.ms ∧
      (dropGrant n s).drawn = s.drawn ∧ (dropGrant n s).pending = s.pending ∧
      (dropGrant n s).jnl.records = s.jnl.records ∧ (dropGrant n s).jnl.nextSeq = s.jnl.nextSeq ∧
      (dropGrant n s).psc.postings = s.psc.postings ∧ (dropGrant n s).psc.state = s.psc.state ∧
      mainOn (dropGrant n s) = mainOn s ∧ (dropGrant n s).now = s.now := by
  and_intros <;> (unfold dropGrant; first | (simp [mainOn, State.now]; done) | (try dsimp only) <;> (repeat' split) <;> simp [mainOn, State.now])

@[simp] theorem settleLane_frame (n : LaneNo) (s : State) :
    (settleLane n s).iqu = s.iqu ∧ (settleLane n s).sm = s.sm ∧ (settleLane n s).du = s.du ∧
      (settleLane n s).ru = s.ru ∧ (settleLane n s).lsu = s.lsu ∧ (settleLane n s).pins = s.pins ∧
      (settleLane n s).store = s.store ∧ (settleLane n s).ms = s.ms ∧ (settleLane n s).drawn = s.drawn ∧
      (settleLane n s).pending = s.pending ∧ (settleLane n s).psc.state = s.psc.state ∧
      (settleLane n s).hlc.slots = s.hlc.slots ∧ (settleLane n s).hlc.running = s.hlc.running ∧
      (settleLane n s).sps.bank = s.sps.bank ∧ (settleLane n s).sps.schedule = s.sps.schedule ∧
      (settleLane n s).sps.products = s.sps.products ∧ (settleLane n s).sps.supply = s.sps.supply ∧
      (settleLane n s).sps.cause = s.sps.cause ∧ (settleLane n s).sps.straps = s.sps.straps ∧
      (settleLane n s).sps.resetHeld = s.sps.resetHeld ∧ (settleLane n s).sps.retainedLost = s.sps.retainedLost ∧
      mainOn (settleLane n s) = mainOn s ∧ (settleLane n s).now = s.now := by
  and_intros <;> (unfold settleLane; first | (simp [mainOn, State.now]; done) | (try dsimp only) <;> (repeat' split) <;> simp [mainOn, State.now])

@[simp] theorem settleLanes_frame (ns : List LaneNo) (s : State) :
    (settleLanes ns s).iqu = s.iqu ∧ (settleLanes ns s).sm = s.sm ∧ (settleLanes ns s).du = s.du ∧
      (settleLanes ns s).ru = s.ru ∧ (settleLanes ns s).lsu = s.lsu ∧ (settleLanes ns s).pins = s.pins ∧
      (settleLanes ns s).store = s.store ∧ (settleLanes ns s).ms = s.ms ∧ (settleLanes ns s).drawn = s.drawn ∧
      (settleLanes ns s).pending = s.pending ∧ (settleLanes ns s).psc.state = s.psc.state ∧
      (settleLanes ns s).hlc.slots = s.hlc.slots ∧ (settleLanes ns s).hlc.running = s.hlc.running ∧
      (settleLanes ns s).sps.bank = s.sps.bank ∧ (settleLanes ns s).sps.schedule = s.sps.schedule ∧
      (settleLanes ns s).sps.products = s.sps.products ∧ (settleLanes ns s).sps.supply = s.sps.supply ∧
      (settleLanes ns s).sps.cause = s.sps.cause ∧ (settleLanes ns s).sps.straps = s.sps.straps ∧
      (settleLanes ns s).sps.resetHeld = s.sps.resetHeld ∧ (settleLanes ns s).sps.retainedLost = s.sps.retainedLost ∧
      mainOn (settleLanes ns s) = mainOn s ∧ (settleLanes ns s).now = s.now := by
  induction ns generalizing s with
  | nil => simp [settleLanes]
  | cons x xs ih => simp [settleLanes, ih]

@[simp] theorem settleStore_frame (s : State) :
    (settleStore s).lanes = s.lanes ∧ (settleStore s).ae = s.ae ∧ (settleStore s).iqu = s.iqu ∧
      (settleStore s).sm = s.sm ∧ (settleStore s).du = s.du ∧ (settleStore s).ru = s.ru ∧
      (settleStore s).lsu = s.lsu ∧ (settleStore s).jnl = s.jnl ∧ (settleStore s).hlc = s.hlc ∧
      (settleStore s).sps = s.sps ∧ (settleStore s).pins = s.pins ∧ (settleStore s).ms = s.ms ∧
      (settleStore s).pending = s.pending ∧ (settleStore s).psc.postings = s.psc.postings ∧
      (settleStore s).psc.credits = s.psc.credits ∧ (settleStore s).psc.state = s.psc.state ∧
      mainOn (settleStore s) = mainOn s ∧ (settleStore s).now = s.now := by
  and_intros <;> (unfold settleStore; first | (simp [mainOn, State.now]; done) | (try dsimp only) <;> (repeat' split) <;> simp [mainOn, State.now])

@[simp] theorem settleMeter_frame (s : State) :
    (settleMeter s).lanes = s.lanes ∧ (settleMeter s).ae = s.ae ∧ (settleMeter s).psc = s.psc ∧
      (settleMeter s).iqu = s.iqu ∧ (settleMeter s).du = s.du ∧ (settleMeter s).ru = s.ru ∧
      (settleMeter s).lsu = s.lsu ∧ (settleMeter s).hlc = s.hlc ∧ (settleMeter s).sps = s.sps ∧
      (settleMeter s).pins = s.pins ∧ (settleMeter s).store = s.store ∧ (settleMeter s).ms = s.ms ∧
      (settleMeter s).drawn = s.drawn ∧ (settleMeter s).pending = s.pending ∧
      (settleMeter s).jnl.records = s.jnl.records ∧ (settleMeter s).jnl.nextSeq = s.jnl.nextSeq ∧
      (settleMeter s).jnl.credits = s.jnl.credits ∧ mainOn (settleMeter s) = mainOn s ∧ (settleMeter s).now = s.now := by
  and_intros <;> (unfold settleMeter; simp [mainOn, State.now])

@[simp] theorem settleInquiry_frame (s : State) :
    (settleInquiry s).lanes = s.lanes ∧ (settleInquiry s).ae = s.ae ∧ (settleInquiry s).psc = s.psc ∧
      (settleInquiry s).sm = s.sm ∧ (settleInquiry s).du = s.du ∧ (settleInquiry s).ru = s.ru ∧
      (settleInquiry s).lsu = s.lsu ∧ (settleInquiry s).jnl = s.jnl ∧ (settleInquiry s).hlc = s.hlc ∧
      (settleInquiry s).sps = s.sps ∧ (settleInquiry s).pins = s.pins ∧ (settleInquiry s).store = s.store ∧
      (settleInquiry s).ms = s.ms ∧ (settleInquiry s).drawn = s.drawn ∧ (settleInquiry s).pending = s.pending ∧
      (settleInquiry s).iqu.link = s.iqu.link ∧ mainOn (settleInquiry s) = mainOn s ∧ (settleInquiry s).now = s.now := by
  and_intros <;> (unfold settleInquiry; simp [mainOn, State.now])

@[simp] theorem linkStop_frame (s : State) :
    (linkStop s).lanes = s.lanes ∧ (linkStop s).ae = s.ae ∧ (linkStop s).psc = s.psc ∧ (linkStop s).iqu = s.iqu ∧
      (linkStop s).sm = s.sm ∧ (linkStop s).du = s.du ∧ (linkStop s).ru = s.ru ∧ (linkStop s).lsu = s.lsu ∧
      (linkStop s).jnl = s.jnl ∧ (linkStop s).sps = s.sps ∧ (linkStop s).pins = s.pins ∧
      (linkStop s).store = s.store ∧ (linkStop s).ms = s.ms ∧ (linkStop s).drawn = s.drawn ∧
      (linkStop s).pending = s.pending ∧ (linkStop s).hlc.slots = s.hlc.slots ∧
      (linkStop s).hlc.flags = s.hlc.flags ∧ mainOn (linkStop s) = mainOn s ∧ (linkStop s).now = s.now := by
  and_intros <;> (unfold linkStop; simp [mainOn, State.now])

@[simp] theorem settleWork_frame (s : State) :
    (settleWork s).du = s.du ∧ (settleWork s).ru = s.ru ∧ (settleWork s).lsu = s.lsu ∧
      (settleWork s).pins = s.pins ∧ (settleWork s).ms = s.ms ∧ (settleWork s).pending = s.pending ∧
      (settleWork s).psc.state = s.psc.state ∧ (settleWork s).hlc.slots = s.hlc.slots ∧
      (settleWork s).iqu.link = s.iqu.link ∧ (settleWork s).sps.bank = s.sps.bank ∧
      (settleWork s).sps.schedule = s.sps.schedule ∧ (settleWork s).sps.products = s.sps.products ∧
      (settleWork s).sps.supply = s.sps.supply ∧ (settleWork s).sps.cause = s.sps.cause ∧
      (settleWork s).sps.straps = s.sps.straps ∧ (settleWork s).sps.resetHeld = s.sps.resetHeld ∧
      (settleWork s).sps.retainedLost = s.sps.retainedLost ∧ mainOn (settleWork s) = mainOn s ∧
      (settleWork s).now = s.now := by
  and_intros <;> (unfold settleWork; simp [mainOn, State.now])

@[simp] theorem haltLost_frame (s : State) :
    (haltLost s).lanes = s.lanes ∧ (haltLost s).ae = s.ae ∧ (haltLost s).psc = s.psc ∧ (haltLost s).iqu = s.iqu ∧
      (haltLost s).ru = s.ru ∧ (haltLost s).lsu = s.lsu ∧ (haltLost s).pins = s.pins ∧ (haltLost s).store = s.store ∧
      (haltLost s).ms = s.ms ∧ (haltLost s).drawn = s.drawn ∧ (haltLost s).pending = s.pending ∧
      (haltLost s).jnl.credits = s.jnl.credits ∧ (haltLost s).sm.window = s.sm.window ∧
      (haltLost s).sm.waiting = s.sm.waiting ∧ (haltLost s).du.sec = s.du.sec ∧ (haltLost s).du.day = s.du.day ∧
      (haltLost s).hlc.slots = s.hlc.slots ∧ (haltLost s).hlc.running = s.hlc.running ∧
      (haltLost s).sps.bank = s.sps.bank ∧ (haltLost s).sps.schedule = s.sps.schedule ∧
      (haltLost s).sps.products = s.sps.products ∧ (haltLost s).sps.supply = s.sps.supply ∧
      (haltLost s).sps.cause = s.sps.cause ∧ (haltLost s).sps.straps = s.sps.straps ∧
      (haltLost s).sps.resetHeld = s.sps.resetHeld ∧ (haltLost s).sps.retainedLost = s.sps.retainedLost ∧
      mainOn (haltLost s) = mainOn s ∧ (haltLost s).now = s.now := by
  and_intros <;> (unfold haltLost; first | (simp [mainOn, State.now]; done) | (try dsimp only) <;> (repeat' split) <;> simp [mainOn, State.now])

@[simp] theorem beginBackup_frame (s : State) :
    (beginBackup s).lanes = s.lanes ∧ (beginBackup s).ae = s.ae ∧ (beginBackup s).psc = s.psc ∧
      (beginBackup s).iqu = s.iqu ∧ (beginBackup s).sm = s.sm ∧ (beginBackup s).ru = s.ru ∧
      (beginBackup s).lsu = s.lsu ∧ (beginBackup s).jnl = s.jnl ∧ (beginBackup s).hlc = s.hlc ∧
      (beginBackup s).sps = s.sps ∧ (beginBackup s).pins = s.pins ∧ (beginBackup s).store = s.store ∧
      (beginBackup s).ms = s.ms ∧ (beginBackup s).drawn = s.drawn ∧ (beginBackup s).pending = s.pending ∧
      (beginBackup s).du.sec = s.du.sec ∧ (beginBackup s).du.day = s.du.day ∧ mainOn (beginBackup s) = mainOn s ∧
      (beginBackup s).now = s.now := by
  and_intros <;> (unfold beginBackup; first | (simp [mainOn, State.now]; done) | (try dsimp only) <;> (repeat' split) <;> simp [mainOn, State.now])

@[simp] theorem loseSupply_frame (s : State) :
    (loseSupply s).ru = s.ru ∧ (loseSupply s).lsu = s.lsu ∧ (loseSupply s).pins = s.pins ∧
      (loseSupply s).ms = s.ms ∧ (loseSupply s).pending = s.pending ∧ (loseSupply s).du.sec = s.du.sec ∧
      (loseSupply s).du.day = s.du.day ∧ (loseSupply s).psc.state = s.psc.state ∧
      (loseSupply s).hlc.slots = s.hlc.slots ∧ (loseSupply s).iqu.link = s.iqu.link ∧
      (loseSupply s).sps.bank = s.sps.bank ∧ (loseSupply s).sps.schedule = s.sps.schedule ∧
      (loseSupply s).sps.products = s.sps.products ∧ (loseSupply s).sps.cause = s.sps.cause ∧
      (loseSupply s).sps.straps = s.sps.straps ∧ (loseSupply s).sps.retainedLost = s.sps.retainedLost ∧
      (loseSupply s).now = s.now := by
  and_intros <;> (unfold loseSupply; first | (simp [State.now]; done) | (try dsimp only) <;> (repeat' split) <;> simp [State.now])

@[simp] theorem startLanes_frame (s : State) :
    (startLanes s).ae = s.ae ∧ (startLanes s).psc = s.psc ∧ (startLanes s).iqu = s.iqu ∧ (startLanes s).sm = s.sm ∧
      (startLanes s).du = s.du ∧ (startLanes s).ru = s.ru ∧ (startLanes s).lsu = s.lsu ∧ (startLanes s).jnl = s.jnl ∧
      (startLanes s).hlc = s.hlc ∧ (startLanes s).sps = s.sps ∧ (startLanes s).pins = s.pins ∧
      (startLanes s).store = s.store ∧ (startLanes s).ms = s.ms ∧ (startLanes s).drawn = s.drawn ∧
      (startLanes s).pending = s.pending ∧ mainOn (startLanes s) = mainOn s ∧ (startLanes s).now = s.now := by
  and_intros <;> (unfold startLanes; simp [mainOn, State.now])

@[simp] theorem startBlocks_frame (cold : Bool) (s : State) :
    (startBlocks cold s).lanes = s.lanes ∧ (startBlocks cold s).du = s.du ∧ (startBlocks cold s).lsu = s.lsu ∧
      (startBlocks cold s).sps = s.sps ∧ (startBlocks cold s).pins = s.pins ∧ (startBlocks cold s).store = s.store ∧
      (startBlocks cold s).ms = s.ms ∧ (startBlocks cold s).drawn = s.drawn ∧
      (startBlocks cold s).pending = s.pending ∧ (startBlocks cold s).jnl.records = s.jnl.records ∧
      (startBlocks cold s).jnl.nextSeq = s.jnl.nextSeq ∧ (startBlocks cold s).psc.postings = s.psc.postings ∧
      (startBlocks cold s).hlc.queue = s.hlc.queue ∧ (startBlocks cold s).hlc.running = s.hlc.running ∧
      (startBlocks cold s).hlc.flags = s.hlc.flags ∧ mainOn (startBlocks cold s) = mainOn s ∧
      (startBlocks cold s).now = s.now := by
  and_intros <;> (unfold startBlocks; simp [mainOn, State.now])

@[simp] theorem startMeter_frame (s : State) :
    (startMeter s).lanes = s.lanes ∧ (startMeter s).ae = s.ae ∧ (startMeter s).psc = s.psc ∧
      (startMeter s).iqu = s.iqu ∧ (startMeter s).du = s.du ∧ (startMeter s).ru = s.ru ∧ (startMeter s).lsu = s.lsu ∧
      (startMeter s).jnl = s.jnl ∧ (startMeter s).hlc = s.hlc ∧ (startMeter s).sps = s.sps ∧
      (startMeter s).pins = s.pins ∧ (startMeter s).store = s.store ∧ (startMeter s).ms = s.ms ∧
      (startMeter s).drawn = s.drawn ∧ (startMeter s).pending = s.pending ∧ (startMeter s).sm.window = s.sm.window ∧
      (startMeter s).sm.waiting = s.sm.waiting ∧ mainOn (startMeter s) = mainOn s ∧ (startMeter s).now = s.now := by
  and_intros <;> (unfold startMeter; first | (simp [mainOn, State.now]; done) | (repeat' split) <;> simp [mainOn, State.now])

@[simp] theorem linkStart_frame (s : State) :
    (linkStart s).lanes = s.lanes ∧ (linkStart s).ae = s.ae ∧ (linkStart s).psc = s.psc ∧
      (linkStart s).iqu = s.iqu ∧ (linkStart s).sm = s.sm ∧ (linkStart s).du = s.du ∧ (linkStart s).ru = s.ru ∧
      (linkStart s).lsu = s.lsu ∧ (linkStart s).jnl = s.jnl ∧ (linkStart s).sps = s.sps ∧
      (linkStart s).pins = s.pins ∧ (linkStart s).store = s.store ∧ (linkStart s).ms = s.ms ∧
      (linkStart s).drawn = s.drawn ∧ (linkStart s).pending = s.pending ∧ (linkStart s).hlc.slots = s.hlc.slots ∧
      (linkStart s).hlc.flags = s.hlc.flags ∧ mainOn (linkStart s) = mainOn s ∧ (linkStart s).now = s.now := by
  and_intros <;> (unfold linkStart; simp [mainOn, State.now])

@[simp] theorem bringUp_frame (cold : Bool) (s : State) :
    (bringUp cold s).lsu = s.lsu ∧ (bringUp cold s).pins = s.pins ∧ (bringUp cold s).store = s.store ∧
      (bringUp cold s).ms = s.ms ∧ (bringUp cold s).drawn = s.drawn ∧ (bringUp cold s).pending = s.pending ∧
      (bringUp cold s).jnl.records = s.jnl.records ∧ (bringUp cold s).jnl.nextSeq = s.jnl.nextSeq ∧
      (bringUp cold s).sps.epoch = s.sps.epoch ∧ (bringUp cold s).du.sec = s.du.sec ∧
      (bringUp cold s).du.day = s.du.day ∧ (bringUp cold s).psc.postings = s.psc.postings ∧
      (bringUp cold s).hlc.flags = s.hlc.flags ∧ (bringUp cold s).sps.bank = s.sps.bank ∧
      (bringUp cold s).sps.schedule = s.sps.schedule ∧ (bringUp cold s).sps.products = s.sps.products ∧
      (bringUp cold s).sps.supply = s.sps.supply ∧ (bringUp cold s).sps.cause = s.sps.cause ∧
      (bringUp cold s).sps.resetHeld = s.sps.resetHeld ∧ (bringUp cold s).sps.retainedLost = s.sps.retainedLost ∧
      mainOn (bringUp cold s) = mainOn s ∧ (bringUp cold s).now = s.now := by
  and_intros <;> (unfold bringUp; simp [mainOn, State.now])

@[simp] theorem saveOwedEpoch_frame (s : State) :
    (saveOwedEpoch s).lanes = s.lanes ∧ (saveOwedEpoch s).ae = s.ae ∧ (saveOwedEpoch s).psc = s.psc ∧
      (saveOwedEpoch s).iqu = s.iqu ∧ (saveOwedEpoch s).sm = s.sm ∧ (saveOwedEpoch s).du = s.du ∧
      (saveOwedEpoch s).ru = s.ru ∧ (saveOwedEpoch s).lsu = s.lsu ∧ (saveOwedEpoch s).jnl = s.jnl ∧
      (saveOwedEpoch s).hlc = s.hlc ∧ (saveOwedEpoch s).pins = s.pins ∧ (saveOwedEpoch s).store = s.store ∧
      (saveOwedEpoch s).ms = s.ms ∧ (saveOwedEpoch s).drawn = s.drawn ∧ (saveOwedEpoch s).pending = s.pending ∧
      (saveOwedEpoch s).sps.epoch = s.sps.epoch ∧ (saveOwedEpoch s).sps.bank = s.sps.bank ∧
      (saveOwedEpoch s).sps.schedule = s.sps.schedule ∧ (saveOwedEpoch s).sps.products = s.sps.products ∧
      (saveOwedEpoch s).sps.supply = s.sps.supply ∧ (saveOwedEpoch s).sps.cause = s.sps.cause ∧
      (saveOwedEpoch s).sps.straps = s.sps.straps ∧ (saveOwedEpoch s).sps.resetHeld = s.sps.resetHeld ∧
      (saveOwedEpoch s).sps.retainedLost = s.sps.retainedLost ∧ mainOn (saveOwedEpoch s) = mainOn s ∧
      (saveOwedEpoch s).now = s.now := by
  and_intros <;> (unfold saveOwedEpoch; first | (simp [mainOn, State.now]; done) | (try dsimp only) <;> (repeat' split) <;> simp [mainOn, State.now])

@[simp] theorem restart_frame (cause : RestartCause) (s : State) :
    (restart cause s).lsu = s.lsu ∧ (restart cause s).pins = s.pins ∧ (restart cause s).store = s.store ∧
      (restart cause s).ms = s.ms ∧ (restart cause s).drawn = s.drawn ∧ (restart cause s).pending = s.pending ∧
      (restart cause s).du.sec = s.du.sec ∧ (restart cause s).du.day = s.du.day ∧
      (restart cause s).psc.postings = s.psc.postings ∧ (restart cause s).sps.bank = s.sps.bank ∧
      (restart cause s).sps.schedule = s.sps.schedule ∧ (restart cause s).sps.products = s.sps.products ∧
      (restart cause s).sps.retainedLost = s.sps.retainedLost ∧ (restart cause s).now = s.now := by
  and_intros <;> (unfold restart; simp [State.now])

@[simp] theorem messageRestart_frame (s : State) :
    (messageRestart s).lsu = s.lsu ∧ (messageRestart s).pins = s.pins ∧ (messageRestart s).ms = s.ms ∧
      (messageRestart s).pending = s.pending ∧ (messageRestart s).du.sec = s.du.sec ∧
      (messageRestart s).du.day = s.du.day ∧ (messageRestart s).sps.bank = s.sps.bank ∧
      (messageRestart s).sps.schedule = s.sps.schedule ∧ (messageRestart s).sps.products = s.sps.products ∧
      (messageRestart s).sps.retainedLost = s.sps.retainedLost ∧ (messageRestart s).now = s.now := by
  and_intros <;> (unfold messageRestart; simp [State.now])

@[simp] theorem clearRetained_frame (s : State) :
    (clearRetained s).sm = s.sm ∧ (clearRetained s).ru = s.ru ∧ (clearRetained s).sps = s.sps ∧
      (clearRetained s).pins = s.pins ∧ (clearRetained s).store = s.store ∧ (clearRetained s).ms = s.ms ∧
      (clearRetained s).drawn = s.drawn ∧ (clearRetained s).pending = s.pending ∧
      (clearRetained s).psc.state = s.psc.state ∧ (clearRetained s).hlc.slots = s.hlc.slots ∧
      (clearRetained s).hlc.queue = s.hlc.queue ∧ (clearRetained s).hlc.running = s.hlc.running ∧
      (clearRetained s).iqu.link = s.iqu.link ∧ mainOn (clearRetained s) = mainOn s := by
  and_intros <;> (unfold clearRetained; simp [mainOn])

@[simp] theorem coldStarted_frame (epochSaved : Bool) (defaultSaved : Bool) (s : State) :
    (coldStarted epochSaved defaultSaved s).pins = s.pins ∧
      (coldStarted epochSaved defaultSaved s).store = s.store ∧ (coldStarted epochSaved defaultSaved s).ms = s.ms ∧
      (coldStarted epochSaved defaultSaved s).drawn = s.drawn ∧
      (coldStarted epochSaved defaultSaved s).pending = s.pending := by
  and_intros <;> (unfold coldStarted; first | (simp; done) | (try dsimp only) <;> (repeat' split) <;> simp)

end Sys2Proof.Machine
end

