-- ==== Sys2Proof/Laws/FrameCommands.lean ====
section
/-! SUPPORT. Frames of the operations of single commands: what each leaves as it was, one simp lemma an operation. -/

namespace Sys2Proof.Machine
-- one theorem at a time: the package as one text elaborates within the memory limit
set_option Elab.async false
open Sys2Proof.Config

@[simp] theorem discardFrame_frame (after : Receiver) (s : State) :
    (discardFrame after s).lanes = s.lanes ∧ (discardFrame after s).ae = s.ae ∧
      (discardFrame after s).psc = s.psc ∧ (discardFrame after s).iqu = s.iqu ∧ (discardFrame after s).sm = s.sm ∧
      (discardFrame after s).du = s.du ∧ (discardFrame after s).ru = s.ru ∧ (discardFrame after s).lsu = s.lsu ∧
      (discardFrame after s).jnl = s.jnl ∧ (discardFrame after s).sps = s.sps ∧
      (discardFrame after s).pins = s.pins ∧ (discardFrame after s).store = s.store ∧
      (discardFrame after s).ms = s.ms ∧ (discardFrame after s).drawn = s.drawn ∧
      (discardFrame after s).pending = s.pending ∧ (discardFrame after s).hlc.slots = s.hlc.slots ∧
      (discardFrame after s).hlc.running = s.hlc.running ∧ mainOn (discardFrame after s) = mainOn s ∧
      (discardFrame after s).now = s.now := by
  and_intros <;> (unfold discardFrame; first | (simp [mainOn, State.now]; done) | (try dsimp only) <;> (repeat' split) <;> simp [mainOn, State.now])

@[simp] theorem changeSource_frame (old : WindowSource) (new : WindowSource) (s : State) :
    (changeSource old new s).lanes = s.lanes ∧ (changeSource old new s).ae = s.ae ∧
      (changeSource old new s).psc = s.psc ∧ (changeSource old new s).iqu = s.iqu ∧
      (changeSource old new s).ru = s.ru ∧ (changeSource old new s).lsu = s.lsu ∧
      (changeSource old new s).pins = s.pins ∧ (changeSource old new s).store = s.store ∧
      (changeSource old new s).ms = s.ms ∧ (changeSource old new s).drawn = s.drawn ∧
      (changeSource old new s).pending = s.pending ∧ (changeSource old new s).jnl.credits = s.jnl.credits ∧
      (changeSource old new s).sm.window = s.sm.window ∧ (changeSource old new s).sm.waiting = s.sm.waiting ∧
      (changeSource old new s).du.sec = s.du.sec ∧ (changeSource old new s).du.day = s.du.day ∧
      (changeSource old new s).hlc.slots = s.hlc.slots ∧ (changeSource old new s).hlc.running = s.hlc.running ∧
      (changeSource old new s).sps.bank = s.sps.bank ∧ (changeSource old new s).sps.schedule = s.sps.schedule ∧
      (changeSource old new s).sps.products = s.sps.products ∧ (changeSource old new s).sps.supply = s.sps.supply ∧
      (changeSource old new s).sps.cause = s.sps.cause ∧ (changeSource old new s).sps.straps = s.sps.straps ∧
      (changeSource old new s).sps.resetHeld = s.sps.resetHeld ∧
      (changeSource old new s).sps.retainedLost = s.sps.retainedLost ∧ mainOn (changeSource old new s) = mainOn s ∧
      (changeSource old new s).now = s.now := by
  and_intros <;> (unfold changeSource; first | (simp [mainOn, State.now]; done) | (try dsimp only) <;> (repeat' split) <;> simp [mainOn, State.now])

/-- A filter setting from now on changes the times at which falls of ROTn and CHAIR are accepted, and nothing more (R4, R97). -/
@[simp] theorem refilter_frame (s : State) :
    (∀ n, (refilter s).lane n =
        { s.lane n with rotation := (s.lane n).rotation.refilter s.ms s.sps.bank.filter.period }) ∧
      (refilter s).sm = { s.sm with chair := s.sm.chair.refilter s.ms s.sps.bank.filter.period } ∧
      (refilter s).ae = s.ae ∧ (refilter s).psc = s.psc ∧ (refilter s).iqu = s.iqu ∧ (refilter s).du = s.du ∧
      (refilter s).ru = s.ru ∧ (refilter s).lsu = s.lsu ∧ (refilter s).jnl = s.jnl ∧ (refilter s).hlc = s.hlc ∧
      (refilter s).sps = s.sps ∧ (refilter s).pins = s.pins ∧ (refilter s).store = s.store ∧ (refilter s).ms = s.ms ∧
      (refilter s).drawn = s.drawn ∧ (refilter s).pending = s.pending ∧ mainOn (refilter s) = mainOn s ∧
      (refilter s).now = s.now := by
  refine ⟨fun n => by cases n <;> rfl, ?_⟩
  and_intros <;> rfl

@[simp] theorem setBank_frame (b : BankSettings) (s : State) :
    (setBank b s).sps = s.sps.withBank b s.ms ∧ (setBank b s).sm = { s.sm with chair := (setBank b s).sm.chair } ∧
      (setBank b s).ae = s.ae ∧ (setBank b s).psc = s.psc ∧ (setBank b s).iqu = s.iqu ∧ (setBank b s).du = s.du ∧
      (setBank b s).ru = s.ru ∧ (setBank b s).lsu = s.lsu ∧ (setBank b s).jnl = s.jnl ∧ (setBank b s).hlc = s.hlc ∧
      (setBank b s).pins = s.pins ∧ (setBank b s).store = s.store ∧ (setBank b s).ms = s.ms ∧
      (setBank b s).drawn = s.drawn ∧ (setBank b s).pending = s.pending ∧ mainOn (setBank b s) = mainOn s ∧
      (setBank b s).now = s.now := by
  unfold setBank
  split <;> simp [mainOn, State.now, SpsState.withBank]

@[simp] theorem disableLane_frame (n : LaneNo) (s : State) :
    (disableLane n s).du = s.du ∧ (disableLane n s).ru = s.ru ∧ (disableLane n s).lsu = s.lsu ∧
      (disableLane n s).sps = s.sps ∧ (disableLane n s).pins = s.pins ∧ (disableLane n s).store = s.store ∧
      (disableLane n s).ms = s.ms ∧ (disableLane n s).drawn = s.drawn ∧ (disableLane n s).pending = s.pending ∧
      (disableLane n s).jnl.records = s.jnl.records ∧ (disableLane n s).jnl.nextSeq = s.jnl.nextSeq ∧
      (disableLane n s).psc.postings = s.psc.postings ∧ (disableLane n s).psc.state = s.psc.state ∧
      (disableLane n s).hlc.slots = s.hlc.slots ∧ (disableLane n s).hlc.running = s.hlc.running ∧
      (disableLane n s).iqu.link = s.iqu.link ∧ mainOn (disableLane n s) = mainOn s ∧ (disableLane n s).now = s.now := by
  and_intros <;> (unfold disableLane; first | (simp [mainOn, State.now]; done) | (repeat' split) <;> simp [mainOn, State.now])

@[simp] theorem enableLane_frame (n : LaneNo) (s : State) :
    (enableLane n s).ae = s.ae ∧ (enableLane n s).psc = s.psc ∧ (enableLane n s).iqu = s.iqu ∧
      (enableLane n s).sm = s.sm ∧ (enableLane n s).du = s.du ∧ (enableLane n s).ru = s.ru ∧
      (enableLane n s).lsu = s.lsu ∧ (enableLane n s).jnl = s.jnl ∧ (enableLane n s).sps = s.sps ∧
      (enableLane n s).pins = s.pins ∧ (enableLane n s).store = s.store ∧ (enableLane n s).ms = s.ms ∧
      (enableLane n s).drawn = s.drawn ∧ (enableLane n s).pending = s.pending ∧
      (enableLane n s).hlc.slots = s.hlc.slots ∧ (enableLane n s).hlc.running = s.hlc.running ∧
      mainOn (enableLane n s) = mainOn s ∧ (enableLane n s).now = s.now := by
  and_intros <;> (unfold enableLane; first | (simp [mainOn, State.now]; done) | (repeat' split) <;> simp [mainOn, State.now])

@[simp] theorem enterField_frame (n : LaneNo) (medium : Nat) (s : State) :
    (enterField n medium s).ae = s.ae ∧ (enterField n medium s).psc = s.psc ∧ (enterField n medium s).iqu = s.iqu ∧
      (enterField n medium s).sm = s.sm ∧ (enterField n medium s).du = s.du ∧ (enterField n medium s).ru = s.ru ∧
      (enterField n medium s).lsu = s.lsu ∧ (enterField n medium s).jnl = s.jnl ∧
      (enterField n medium s).hlc = s.hlc ∧ (enterField n medium s).sps = s.sps ∧
      (enterField n medium s).pins = s.pins ∧ (enterField n medium s).store = s.store ∧
      (enterField n medium s).ms = s.ms ∧ (enterField n medium s).drawn = s.drawn ∧
      (enterField n medium s).pending = s.pending ∧ mainOn (enterField n medium s) = mainOn s ∧
      (enterField n medium s).now = s.now := by
  and_intros <;> (unfold enterField; first | (simp [mainOn, State.now]; done) | (try dsimp only) <;> (repeat' split) <;> simp [mainOn, State.now])

@[simp] theorem leaveField_frame (n : LaneNo) (s : State) :
    (leaveField n s).du = s.du ∧ (leaveField n s).ru = s.ru ∧ (leaveField n s).lsu = s.lsu ∧
      (leaveField n s).jnl = s.jnl ∧ (leaveField n s).hlc = s.hlc ∧ (leaveField n s).sps = s.sps ∧
      (leaveField n s).pins = s.pins ∧ (leaveField n s).store = s.store ∧ (leaveField n s).ms = s.ms ∧
      (leaveField n s).drawn = s.drawn ∧ (leaveField n s).pending = s.pending ∧
      (leaveField n s).sm.window = s.sm.window ∧ (leaveField n s).psc.postings = s.psc.postings ∧
      (leaveField n s).psc.credits = s.psc.credits ∧ (leaveField n s).psc.state = s.psc.state ∧
      (leaveField n s).iqu.link = s.iqu.link ∧ mainOn (leaveField n s) = mainOn s ∧ (leaveField n s).now = s.now := by
  and_intros <;> (unfold leaveField; first | (simp [mainOn, State.now]; done) | (repeat' split) <;> simp [mainOn, State.now])

@[simp] theorem setClock_frame (day : Nat) (sec : Nat) (s : State) :
    (setClock day sec s).2.lanes = s.lanes ∧ (setClock day sec s).2.ae = s.ae ∧
      (setClock day sec s).2.iqu = s.iqu ∧ (setClock day sec s).2.ru = s.ru ∧ (setClock day sec s).2.lsu = s.lsu ∧
      (setClock day sec s).2.pins = s.pins ∧ (setClock day sec s).2.store = s.store ∧
      (setClock day sec s).2.ms = s.ms ∧ (setClock day sec s).2.drawn = s.drawn ∧
      (setClock day sec s).2.pending = s.pending ∧ (setClock day sec s).2.jnl.credits = s.jnl.credits ∧
      (setClock day sec s).2.sm.window = s.sm.window ∧ (setClock day sec s).2.sm.waiting = s.sm.waiting ∧
      (setClock day sec s).2.psc.credits = s.psc.credits ∧ (setClock day sec s).2.psc.state = s.psc.state ∧
      (setClock day sec s).2.hlc.slots = s.hlc.slots ∧ (setClock day sec s).2.hlc.running = s.hlc.running ∧
      (setClock day sec s).2.sps.bank = s.sps.bank ∧ (setClock day sec s).2.sps.schedule = s.sps.schedule ∧
      (setClock day sec s).2.sps.products = s.sps.products ∧ (setClock day sec s).2.sps.supply = s.sps.supply ∧
      (setClock day sec s).2.sps.cause = s.sps.cause ∧ (setClock day sec s).2.sps.straps = s.sps.straps ∧
      (setClock day sec s).2.sps.resetHeld = s.sps.resetHeld ∧
      (setClock day sec s).2.sps.retainedLost = s.sps.retainedLost ∧ mainOn (setClock day sec s).2 = mainOn s := by
  and_intros <;> (unfold setClock; first | (simp [mainOn]; done) | (try dsimp only) <;> (repeat' split) <;> simp [mainOn])

@[simp] theorem endCycle_frame (s : State) :
    (endCycle s).ae = s.ae ∧ (endCycle s).du = s.du ∧ (endCycle s).lsu = s.lsu ∧ (endCycle s).sps = s.sps ∧
      (endCycle s).pins = s.pins ∧ (endCycle s).store = s.store ∧ (endCycle s).ms = s.ms ∧
      (endCycle s).drawn = s.drawn ∧ (endCycle s).pending = s.pending ∧ (endCycle s).jnl.records = s.jnl.records ∧
      (endCycle s).jnl.nextSeq = s.jnl.nextSeq ∧ (endCycle s).psc.state = s.psc.state ∧
      (endCycle s).hlc.slots = s.hlc.slots ∧ (endCycle s).hlc.running = s.hlc.running ∧
      (endCycle s).iqu.link = s.iqu.link ∧ mainOn (endCycle s) = mainOn s ∧ (endCycle s).now = s.now := by
  and_intros <;> (unfold endCycle; simp [mainOn, State.now])

@[simp] theorem answerLane_frame (v : Verdict) (record : Option RawRecord) (p : PendingInquiry) (s : State) :
    (answerLane v record p s).du = s.du ∧ (answerLane v record p s).ru = s.ru ∧
      (answerLane v record p s).lsu = s.lsu ∧ (answerLane v record p s).sps = s.sps ∧
      (answerLane v record p s).pins = s.pins ∧ (answerLane v record p s).store = s.store ∧
      (answerLane v record p s).ms = s.ms ∧ (answerLane v record p s).drawn = s.drawn ∧
      (answerLane v record p s).pending = s.pending ∧ (answerLane v record p s).jnl.records = s.jnl.records ∧
      (answerLane v record p s).jnl.nextSeq = s.jnl.nextSeq ∧
      (answerLane v record p s).psc.postings = s.psc.postings ∧ (answerLane v record p s).psc.state = s.psc.state ∧
      (answerLane v record p s).hlc.running = s.hlc.running ∧ (answerLane v record p s).iqu.link = s.iqu.link ∧
      mainOn (answerLane v record p s) = mainOn s ∧ (answerLane v record p s).now = s.now := by
  and_intros <;> (unfold answerLane; first | (simp [mainOn, State.now]; done) | (repeat' split) <;> simp [mainOn, State.now])

@[simp] theorem matchAnswer_frame (number : Nat) (v : Verdict) (record : Option RawRecord) (s : State) :
    (matchAnswer number v record s).du = s.du ∧ (matchAnswer number v record s).ru = s.ru ∧
      (matchAnswer number v record s).lsu = s.lsu ∧ (matchAnswer number v record s).sps = s.sps ∧
      (matchAnswer number v record s).pins = s.pins ∧ (matchAnswer number v record s).store = s.store ∧
      (matchAnswer number v record s).ms = s.ms ∧ (matchAnswer number v record s).drawn = s.drawn ∧
      (matchAnswer number v record s).pending = s.pending ∧
      (matchAnswer number v record s).jnl.records = s.jnl.records ∧
      (matchAnswer number v record s).jnl.nextSeq = s.jnl.nextSeq ∧
      (matchAnswer number v record s).psc.postings = s.psc.postings ∧
      (matchAnswer number v record s).psc.state = s.psc.state ∧
      (matchAnswer number v record s).hlc.running = s.hlc.running ∧
      (matchAnswer number v record s).iqu.link = s.iqu.link ∧ mainOn (matchAnswer number v record s) = mainOn s ∧
      (matchAnswer number v record s).now = s.now := by
  and_intros <;> (unfold matchAnswer; first | (simp [mainOn, State.now]; done) | (repeat' split) <;> simp [mainOn, State.now])

@[simp] theorem installRecord_frame (k : SlotNo) (classified : Status) (raw : RawRecord) (s : State) :
    (installRecord k classified raw s).du = s.du ∧ (installRecord k classified raw s).lsu = s.lsu ∧
      (installRecord k classified raw s).pins = s.pins ∧ (installRecord k classified raw s).store = s.store ∧
      (installRecord k classified raw s).ms = s.ms ∧ (installRecord k classified raw s).drawn = s.drawn ∧
      (installRecord k classified raw s).pending = s.pending ∧
      (installRecord k classified raw s).psc.state = s.psc.state ∧
      (installRecord k classified raw s).hlc.running = s.hlc.running ∧
      (installRecord k classified raw s).iqu.link = s.iqu.link ∧
      (installRecord k classified raw s).sps.bank = s.sps.bank ∧
      (installRecord k classified raw s).sps.schedule = s.sps.schedule ∧
      (installRecord k classified raw s).sps.products = s.sps.products ∧
      (installRecord k classified raw s).sps.supply = s.sps.supply ∧
      (installRecord k classified raw s).sps.cause = s.sps.cause ∧
      (installRecord k classified raw s).sps.straps = s.sps.straps ∧
      (installRecord k classified raw s).sps.resetHeld = s.sps.resetHeld ∧
      (installRecord k classified raw s).sps.retainedLost = s.sps.retainedLost ∧
      mainOn (installRecord k classified raw s) = mainOn s ∧ (installRecord k classified raw s).now = s.now := by
  and_intros <;> (unfold installRecord; first | (simp [mainOn, State.now]; done) | (repeat' split) <;> simp [mainOn, State.now])

@[simp] theorem takeUpdate_frame (k : SlotNo) (pass : Nat) (occupancy : Bool) (s : State) :
    (takeUpdate k pass occupancy s).du = s.du ∧ (takeUpdate k pass occupancy s).lsu = s.lsu ∧
      (takeUpdate k pass occupancy s).pins = s.pins ∧ (takeUpdate k pass occupancy s).store = s.store ∧
      (takeUpdate k pass occupancy s).ms = s.ms ∧ (takeUpdate k pass occupancy s).drawn = s.drawn ∧
      (takeUpdate k pass occupancy s).pending = s.pending ∧ (takeUpdate k pass occupancy s).psc.state = s.psc.state ∧
      (takeUpdate k pass occupancy s).hlc.running = s.hlc.running ∧
      (takeUpdate k pass occupancy s).iqu.link = s.iqu.link ∧ (takeUpdate k pass occupancy s).sps.bank = s.sps.bank ∧
      (takeUpdate k pass occupancy s).sps.schedule = s.sps.schedule ∧
      (takeUpdate k pass occupancy s).sps.products = s.sps.products ∧
      (takeUpdate k pass occupancy s).sps.supply = s.sps.supply ∧
      (takeUpdate k pass occupancy s).sps.cause = s.sps.cause ∧
      (takeUpdate k pass occupancy s).sps.straps = s.sps.straps ∧
      (takeUpdate k pass occupancy s).sps.resetHeld = s.sps.resetHeld ∧
      (takeUpdate k pass occupancy s).sps.retainedLost = s.sps.retainedLost ∧
      mainOn (takeUpdate k pass occupancy s) = mainOn s ∧ (takeUpdate k pass occupancy s).now = s.now := by
  and_intros <;> (unfold takeUpdate; first | (simp [mainOn, State.now]; done) | (repeat' split) <;> simp [mainOn, State.now])

@[simp] theorem pulseEndsHalt_frame (s : State) :
    (pulseEndsHalt s).lanes = s.lanes ∧ (pulseEndsHalt s).ae = s.ae ∧ (pulseEndsHalt s).psc = s.psc ∧
      (pulseEndsHalt s).iqu = s.iqu ∧ (pulseEndsHalt s).ru = s.ru ∧ (pulseEndsHalt s).lsu = s.lsu ∧
      (pulseEndsHalt s).pins = s.pins ∧ (pulseEndsHalt s).store = s.store ∧ (pulseEndsHalt s).ms = s.ms ∧
      (pulseEndsHalt s).drawn = s.drawn ∧ (pulseEndsHalt s).pending = s.pending ∧
      (pulseEndsHalt s).jnl.credits = s.jnl.credits ∧ (pulseEndsHalt s).sm.window = s.sm.window ∧
      (pulseEndsHalt s).sm.waiting = s.sm.waiting ∧ (pulseEndsHalt s).du.sec = s.du.sec ∧
      (pulseEndsHalt s).du.day = s.du.day ∧ (pulseEndsHalt s).hlc.slots = s.hlc.slots ∧
      (pulseEndsHalt s).hlc.running = s.hlc.running ∧ (pulseEndsHalt s).sps.bank = s.sps.bank ∧
      (pulseEndsHalt s).sps.schedule = s.sps.schedule ∧ (pulseEndsHalt s).sps.products = s.sps.products ∧
      (pulseEndsHalt s).sps.supply = s.sps.supply ∧ (pulseEndsHalt s).sps.cause = s.sps.cause ∧
      (pulseEndsHalt s).sps.straps = s.sps.straps ∧ (pulseEndsHalt s).sps.resetHeld = s.sps.resetHeld ∧
      (pulseEndsHalt s).sps.retainedLost = s.sps.retainedLost ∧ mainOn (pulseEndsHalt s) = mainOn s ∧
      (pulseEndsHalt s).now = s.now := by
  and_intros <;> (unfold pulseEndsHalt; first | (simp [mainOn, State.now]; done) | (try dsimp only) <;> (repeat' split) <;> simp [mainOn, State.now])

end Sys2Proof.Machine
end

