-- ==== Sys2Proof/Laws/Sensors.lean ====
section
/-! SUPPORT. What the sensor filter does to a change and to a pulse (R3, R4), and the frames of what an accepted change
brings about. -/

namespace Sys2Proof.Machine
-- one theorem at a time: the package as one text elaborates within the memory limit
set_option Elab.async false
open Sys2Proof.Config

/-- An accepted change is seen after the part's first sample and has held its level for one sampling period (R3, R4). -/
theorem acceptAt_eq_some_iff (s : State) (seen held time : Nat) :
    s.acceptAt seen held = some time ↔
      s.sps.startedAt < seen ∧ time = max seen s.sps.filterSince + s.sps.bank.filter.period ∧ time ≤ seen + held := by
  unfold State.acceptAt
  dsimp only
  split <;> simp <;> omega

/-- A change that returns before its sampling period ends is not accepted, nor one that the first sample finds made (R3,
R4). -/
theorem acceptAt_eq_none_iff (s : State) (seen held : Nat) :
    s.acceptAt seen held = none ↔
      seen ≤ s.sps.startedAt ∨ seen + held < max seen s.sps.filterSince + s.sps.bank.filter.period := by
  unfold State.acceptAt
  dsimp only
  split <;> simp <;> omega

/-- A level that the first sample shows is no change after it (R4). -/
theorem acceptAt_of_firstShows (s : State) (seen held : Nat) (h : s.firstShows seen held = true) :
    s.acceptAt seen held = none := by
  simp [State.firstShows] at h
  exact (acceptAt_eq_none_iff s seen held).2 (.inl h.1)

/-- A pulse on an input whose level is not accepted high any more is accepted as a change is. -/
theorem pulse_of_low (s : State) (x : PulseInput) (seen held : Nat) (h : x.high = false ∨ x.low ≤ seen)
    (first : s.firstShows seen held = false) :
    s.pulse x seen held = ((s.acceptAt seen held).isSome, s.acceptAt seen held) := by
  have low : x.highAt seen = false := by rcases h with h | h <;> simp [PulseInput.highAt, h]
  simp [State.pulse, low, first]

/-- A pulse that the first sample shows high is no rise (R4, R97). -/
theorem pulse_of_firstShows (s : State) (x : PulseInput) (seen held : Nat) (h : s.firstShows seen held = true) :
    s.pulse x seen held = (true, none) := by
  simp [State.pulse, h]

/-- A pulse on an input whose fall is not accepted yet is no new rise (R3). -/
theorem pulse_of_high (s : State) (x : PulseInput) (seen held : Nat) (h : x.high = true) (low : seen < x.low) :
    s.pulse x seen held = (true, none) := by
  simp [State.pulse, PulseInput.highAt, h, low]

/-- The accepted level after a pulse that is a rise is high, and after one that is none it is as when it was seen, or high where
the first sample shows it so. -/
theorem afterPulse_eq (s : State) (x : PulseInput) (seen held : Nat) :
    s.afterPulse x seen held =
      { high := (s.pulse x seen held).2.isSome || x.highAt seen || s.firstShows seen held, fall := seen + held
        low := s.lowFrom (seen + held) } := by
  unfold State.afterPulse State.pulse
  cases x.highAt seen <;> cases s.firstShows seen held <;> simp

/-- A fall that is accepted is not measured again at a new filter setting (R4). -/
@[simp] theorem refilter_of_accepted (x : PulseInput) (ms period : Nat) (h : x.low ≤ ms) : x.refilter ms period = x := by
  simp [PulseInput.refilter, h]

/-- A lane whose grant or passage has time left at a change finds nothing lapsed (R17, R22). -/
theorem lapse_of_inTime (n : LaneNo) (time : Nat) (s : State)
    (h : (s.lane n).state = .granted ∨ (s.lane n).state = .passing → ∀ t ∈ (s.lane n).stateTimer, time ≤ t) :
    lapse n time s = s := by
  unfold lapse
  split
  · next hs ht => rw [if_neg (by have := h (.inl hs) _ ht; omega)]
  · next hs ht => rw [if_neg (by have := h (.inr hs) _ ht; omega)]
  · rfl

@[simp] theorem lapse_frame (n : LaneNo) (time : Nat) (s : State) :
    (lapse n time s).du = s.du ∧ (lapse n time s).ru = s.ru ∧ (lapse n time s).lsu = s.lsu ∧
      (lapse n time s).sps = s.sps ∧ (lapse n time s).pins = s.pins ∧
      (lapse n time s).store = s.store ∧ (lapse n time s).drawn = s.drawn ∧
      (lapse n time s).pending = s.pending ∧ (lapse n time s).jnl.records = s.jnl.records ∧
      (lapse n time s).jnl.nextSeq = s.jnl.nextSeq ∧ (lapse n time s).psc.postings = s.psc.postings ∧
      (lapse n time s).psc.state = s.psc.state ∧ (lapse n time s).hlc.slots = s.hlc.slots ∧
      (lapse n time s).hlc.running = s.hlc.running ∧ (lapse n time s).iqu.link = s.iqu.link ∧
      mainOn (lapse n time s) = mainOn s ∧ (lapse n time s).now = s.now := by
  and_intros <;> (unfold lapse; first | (simp [mainOn, State.now]; done) | (try dsimp only) <;> (repeat' split) <;> simp [mainOn, State.now])

@[simp] theorem rotate_frame (n : LaneNo) (s : State) :
    (rotate n s).iqu = s.iqu ∧ (rotate n s).sm = s.sm ∧ (rotate n s).du = s.du ∧
      (rotate n s).lsu = s.lsu ∧ (rotate n s).pins = s.pins ∧ (rotate n s).store = s.store ∧ (rotate n s).ms = s.ms ∧
      (rotate n s).drawn = s.drawn ∧ (rotate n s).pending = s.pending ∧ (rotate n s).psc.state = s.psc.state ∧
      (rotate n s).hlc.slots = s.hlc.slots ∧ (rotate n s).hlc.running = s.hlc.running ∧
      (rotate n s).sps.bank = s.sps.bank ∧ (rotate n s).sps.schedule = s.sps.schedule ∧
      (rotate n s).sps.products = s.sps.products ∧ (rotate n s).sps.supply = s.sps.supply ∧
      (rotate n s).sps.cause = s.sps.cause ∧ (rotate n s).sps.straps = s.sps.straps ∧
      (rotate n s).sps.resetHeld = s.sps.resetHeld ∧ (rotate n s).sps.retainedLost = s.sps.retainedLost ∧
      mainOn (rotate n s) = mainOn s ∧ (rotate n s).now = s.now := by
  and_intros <;> (unfold rotate; first | (simp [mainOn, State.now]; done) | (try dsimp only) <;> (repeat' split) <;> simp [mainOn, State.now])

@[simp] theorem chairArrives_frame (s : State) :
    (chairArrives s).ru = s.ru ∧ (chairArrives s).lsu = s.lsu ∧ (chairArrives s).pins = s.pins ∧
      (chairArrives s).store = s.store ∧ (chairArrives s).ms = s.ms ∧ (chairArrives s).drawn = s.drawn ∧
      (chairArrives s).pending = s.pending ∧ (chairArrives s).hlc.slots = s.hlc.slots ∧
      (chairArrives s).hlc.running = s.hlc.running ∧ (chairArrives s).du.sec = s.du.sec ∧
      (chairArrives s).du.day = s.du.day ∧ (chairArrives s).sps.bank = s.sps.bank ∧
      (chairArrives s).sps.schedule = s.sps.schedule ∧ (chairArrives s).sps.products = s.sps.products ∧
      (chairArrives s).sps.supply = s.sps.supply ∧ (chairArrives s).sps.cause = s.sps.cause ∧
      (chairArrives s).sps.straps = s.sps.straps ∧ (chairArrives s).sps.resetHeld = s.sps.resetHeld ∧
      (chairArrives s).sps.retainedLost = s.sps.retainedLost ∧ mainOn (chairArrives s) = mainOn s ∧
      (chairArrives s).now = s.now := by
  and_intros <;> (unfold chairArrives; first | (simp [mainOn, State.now]; done) | (try dsimp only) <;> (repeat' split) <;> simp [mainOn, State.now])

end Sys2Proof.Machine
end

