-- ==== Sys2Proof/Laws/DayUnit.lean ====
section
/-! SUPPORT. What the day unit's operations do to the accrued spans (R118, R126, R127) and to the closure log (R131): the
form of each list is kept. -/

namespace Sys2Proof.Machine
-- one theorem at a time: the package as one text elaborates within the memory limit
set_option Elab.async false
open Sys2Proof.Config

/-! ### Accrued spans -/

/-- Spans in time order and disjoint, none past a day second, and none but the last open. -/
def SpansTo (sec : Nat) (xs : List Span) : Prop :=
  xs.Pairwise (fun a b => a.finish ≤ b.start ∧ a.isOpen = false) ∧ ∀ x ∈ xs, x.start ≤ x.finish ∧ x.finish ≤ sec

theorem spansOk_iff (s : State) : SpansOk s ↔ SpansTo s.du.sec s.du.spans ∧ s.du.spans.length ≤ 8 := by
  simp [SpansOk, SpansTo, spanCapacity, and_assoc]

theorem SpansTo.mono {a b : Nat} {xs : List Span} (h : SpansTo a xs) (le : a ≤ b) : SpansTo b xs :=
  ⟨h.1, fun x m => ⟨(h.2 x m).1, Nat.le_trans (h.2 x m).2 le⟩⟩

theorem SpansTo.sublist {sec : Nat} {xs ys : List Span} (h : SpansTo sec ys) (sub : xs.Sublist ys) : SpansTo sec xs :=
  ⟨h.1.sublist sub, fun x m => h.2 x (sub.subset m)⟩

/-- A member of a list with a span put in is that span or a member of the list, open perhaps no more. -/
theorem mem_insertSpan {x z : Span} {xs : List Span} (h : z ∈ insertSpan x xs) :
    z = x ∨ ∃ w ∈ xs, z.start = w.start ∧ z.finish = w.finish := by
  induction xs with
  | nil => simp [insertSpan] at h; exact .inl h
  | cons y ys ih =>
    simp only [insertSpan] at h
    split at h
    · rcases List.mem_cons.mp h with rfl | h
      · exact .inl rfl
      · exact .inr ⟨z, h, rfl, rfl⟩
    · rcases List.mem_cons.mp h with rfl | h
      · exact .inr ⟨y, by simp, rfl, rfl⟩
      · rcases ih h with rfl | ⟨w, m, e⟩
        · exact .inl rfl
        · exact .inr ⟨w, by simp [m], e⟩

theorem length_insertSpan (x : Span) (xs : List Span) : (insertSpan x xs).length = xs.length + 1 := by
  induction xs with
  | nil => rfl
  | cons y ys ih => simp only [insertSpan]; split <;> simp [ih]

/-- A span joins spans that it meets nowhere; an open one follows them all. -/
theorem SpansTo.insertSpan {sec : Nat} {x : Span} {xs : List Span} (h : SpansTo sec xs) (le : x.start ≤ x.finish)
    (now : x.finish ≤ sec)
    (apart : ∀ y ∈ xs, (y.start ≤ x.start → y.finish ≤ x.start) ∧ (x.start < y.start → x.finish ≤ y.start))
    (last : x.isOpen = true → ∀ y ∈ xs, y.start ≤ x.start) : SpansTo sec (insertSpan x xs) := by
  refine ⟨?_, ?_⟩
  · induction xs with
    | nil => simp [Machine.insertSpan]
    | cons y ys ih =>
      have tail : SpansTo sec ys := h.sublist (List.sublist_cons_self y ys)
      obtain ⟨first, _⟩ := List.pairwise_cons.mp h.1
      have own := h.2 y (by simp)
      simp only [Machine.insertSpan]
      split
      case isTrue lt =>
        refine List.pairwise_cons.mpr ⟨fun z m => ?_, h.1⟩
        have closed : x.isOpen = false := by
          cases o : x.isOpen with
          | false => rfl
          | true => exact absurd (last o y (by simp)) (by omega)
        have near := (apart y (by simp)).2 lt
        rcases List.mem_cons.mp m with rfl | m
        · exact ⟨near, closed⟩
        · exact ⟨by have := (first z m).1; omega, closed⟩
      case isFalse ge =>
        refine List.pairwise_cons.mpr ⟨fun z m => ⟨?_, rfl⟩, ?_⟩
        · rcases mem_insertSpan m with rfl | ⟨w, m, e, _⟩
          · exact (apart y (by simp)).1 (by omega)
          · rw [e]; exact (first w m).1
        · exact ih tail (fun z m => apart z (by simp [m])) (fun o z m => last o z (by simp [m]))
  · intro z m
    rcases mem_insertSpan m with rfl | ⟨w, m, e, f⟩
    · exact ⟨le, now⟩
    · rw [e, f]; exact h.2 w m

theorem SpansTo.closeSpans {sec : Nat} {xs : List Span} (h : SpansTo sec xs) : SpansTo sec (closeSpans xs) := by
  refine ⟨List.pairwise_map.mpr (h.1.imp (fun a => ⟨a.1, rfl⟩)), fun x m => ?_⟩
  obtain ⟨y, old, rfl⟩ := List.mem_map.mp m
  exact h.2 y old

/-- Room made for a span leaves spans in their form. -/
theorem SpansTo.makeRoom {sec : Nat} {xs : List Span} (h : SpansTo sec xs) (now : Nat) : SpansTo sec (makeRoom now xs) := by
  have recent := h.sublist (List.filter_sublist (p := fun y => y.isOpen || decide (now < y.finish + 120)))
  unfold Machine.makeRoom
  dsimp only
  split
  · generalize xs.filter _ = ys at recent
    match ys, recent with
    | [], recent => exact recent
    | [x], recent => exact recent
    | x :: y :: rest, recent =>
      obtain ⟨first, others⟩ := List.pairwise_cons.mp recent.1
      obtain ⟨second, others⟩ := List.pairwise_cons.mp others
      have a := recent.2 x (by simp)
      have b := recent.2 y (by simp)
      have ab := (first y (by simp)).1
      refine ⟨List.pairwise_cons.mpr ⟨second, others⟩, fun z m => ?_⟩
      rcases List.mem_cons.mp m with rfl | m
      · exact ⟨by simp only; omega, b.2⟩
      · exact recent.2 z (by simp [m])
  · exact recent

/-- With at most 8 spans held, room is made for one more. -/
theorem length_makeRoom {now : Nat} {xs : List Span} (h : xs.length ≤ 8) : (makeRoom now xs).length ≤ 7 := by
  have le := List.length_filter_le (fun y => y.isOpen || decide (now < y.finish + 120)) xs
  unfold Machine.makeRoom
  dsimp only
  generalize xs.filter _ = ys at le
  split
  · match ys with
    | [] => simp [mergeOldest]
    | [x] => simp [mergeOldest]
    | x :: y :: rest => simp only [mergeOldest, List.length_cons] at le ⊢; omega
  · simp only [spanCapacity] at *; omega

/-- What is left of a range outside spans lies in the range and meets none of them (R127). -/
theorem mem_uncovered {xs : List Span} {r p : Nat × Nat} (h : p ∈ uncovered xs r) :
    p.1 < p.2 ∧ r.1 ≤ p.1 ∧ p.2 ≤ r.2 ∧ ∀ x ∈ xs, p.2 ≤ x.start ∨ x.finish ≤ p.1 := by
  have step : ∀ (ys done : List Span) (rs : List (Nat × Nat)),
      (∀ q ∈ rs, q.1 < q.2 ∧ r.1 ≤ q.1 ∧ q.2 ≤ r.2 ∧ ∀ x ∈ done, q.2 ≤ x.start ∨ x.finish ≤ q.1) →
      ∀ q ∈ ys.foldl (fun rs x => rs.flatMap (outside x)) rs,
        q.1 < q.2 ∧ r.1 ≤ q.1 ∧ q.2 ≤ r.2 ∧ ∀ x ∈ done ++ ys, q.2 ≤ x.start ∨ x.finish ≤ q.1 := by
    intro ys
    induction ys with
    | nil => intro done rs h q m; simpa using h q m
    | cons y ys ih =>
      intro done rs h q m
      have := ih (done ++ [y]) (rs.flatMap (outside y)) (fun q m => by
        obtain ⟨a, ma, mq⟩ := List.mem_flatMap.mp m
        obtain ⟨lt, low, high, apart⟩ := h a ma
        simp only [outside, List.mem_filter, List.mem_cons, List.not_mem_nil, or_false, decide_eq_true_eq] at mq
        obtain ⟨rfl | rfl, qlt⟩ := mq
        all_goals
          refine ⟨qlt, by simp only; omega, by simp only; omega, fun x m => ?_⟩
          rcases List.mem_append.mp m with m | m
          · have := apart x m; simp only; omega
          · rw [List.mem_singleton.mp m]; simp only; omega) q m
      simpa using this
  have := step xs [] ([r].filter (fun p => p.1 < p.2)) (fun q m => by
    simp only [List.mem_filter, List.mem_singleton, decide_eq_true_eq] at m
    obtain ⟨rfl, lt⟩ := m
    exact ⟨lt, Nat.le_refl _, Nat.le_refl _, by simp⟩) p h
  simpa using this

/-- A backdated range joins the spans where none covers it (R127). -/
theorem SpansOk.addLost {s : State} (h : SpansOk s) (r : Nat × Nat) (now : r.2 ≤ s.du.sec) : SpansOk (addLost r s) := by
  rw [spansOk_iff] at h ⊢
  have room := h.1.makeRoom s.du.sec
  have len := length_makeRoom (now := s.du.sec) h.2
  unfold Machine.addLost
  dsimp only
  split
  · exact ⟨room, by simp only [withDu_du]; omega⟩
  · rename_i p _ e
    obtain ⟨lt, low, high, apart⟩ := mem_uncovered (p := p) (by rw [e]; simp)
    split
    · exact h
    · refine ⟨room.insertSpan (by simp only; omega) (by simp only; omega) (fun y m => ?_) (by simp), ?_⟩
      · have own := room.2 y m
        have := apart y m
        simp only
        omega
      · simp only [withDu_du, length_insertSpan]; omega

/-- The backdating of a halt keeps the spans in their form (R127). -/
theorem SpansOk.backdate {s : State} (h : SpansOk s) (start : Time) : SpansOk (backdate start s) := by
  have step : ∀ (rs : List (Nat × Nat)) (t : State), SpansOk t → (∀ r ∈ rs, r.2 ≤ t.du.sec) →
      SpansOk (rs.foldl (fun s r => Machine.addLost r s) t) := by
    intro rs
    induction rs with
    | nil => intro t h _; exact h
    | cons r rs ih =>
      intro t h le
      exact ih _ (h.addLost r (le r (by simp))) (fun q m => by simpa using le q (by simp [m]))
  refine step _ s h (fun r m => ?_)
  have := (mem_uncovered m).2.2.1
  simp only at this
  omega

/-- The second that ends keeps the spans in their form, up to the next second (R126). -/
theorem SpansOk.accrueSecond {s : State} (h : SpansOk s) :
    SpansTo (s.du.sec + 1) (accrueSecond s).du.spans ∧ (accrueSecond s).du.spans.length ≤ 8 := by
  rw [spansOk_iff] at h
  have later := h.1.mono (Nat.le_succ s.du.sec)
  unfold Machine.accrueSecond
  dsimp only
  split
  · simp only [withDu_du]
    split
    · refine ⟨⟨?_, ?_⟩, by simpa using h.2⟩
      · refine List.pairwise_map.mpr (h.1.1.imp (fun {a b} hab => ?_))
        simp only [hab.2, Bool.false_eq_true, if_false]
        exact ⟨by split <;> exact hab.1, trivial⟩
      · intro x m
        obtain ⟨y, old, rfl⟩ := List.mem_map.mp m
        have own := h.1.2 y old
        by_cases o : y.isOpen = true <;> simp only [o, if_true, Bool.false_eq_true, if_false] <;> omega
    · have room := later.makeRoom s.du.sec
      refine ⟨room.insertSpan (by simp) (by simp) (fun y m => ?_) (fun _ y m => ?_), ?_⟩
      · have own := (h.1.makeRoom s.du.sec).2 y m; simp only; omega
      · have own := (h.1.makeRoom s.du.sec).2 y m; simp only; omega
      · have := length_makeRoom (now := s.du.sec) h.2
        simp only [addSpan, length_insertSpan]; omega
  · exact ⟨later, h.2⟩

/-- A settling of the spans changes at most which is open (R126). -/
theorem SpansOk.settleSpans {s : State} (h : SpansOk s) : SpansOk (settleSpans s) := by
  rw [spansOk_iff] at h ⊢
  unfold Machine.settleSpans
  split
  · exact h
  · exact ⟨h.1.closeSpans, by simpa [Machine.closeSpans] using h.2⟩

/-! ### The closure log -/

/-- Closure entries in day order, at most one a day. -/
abbrev InDayOrder (log : List ClosureEntry) : Prop := log.Pairwise (·.day < ·.day)

theorem mem_insertEntry {e x : ClosureEntry} {log : List ClosureEntry} (h : x ∈ insertEntry e log) : x = e ∨ x ∈ log := by
  induction log with
  | nil => simp [insertEntry] at h; exact .inl h
  | cons f fs ih =>
    simp only [insertEntry] at h
    (repeat' split at h) <;> simp only [List.mem_cons] at h ⊢
    · exact h
    · rcases h with h | h <;> simp [h]
    · rcases h with h | h
      · simp [h]
      · rcases ih h with h | h <;> simp [h]

/-- An entry put into the log stands in it. -/
theorem mem_insertEntry_self (e : ClosureEntry) (log : List ClosureEntry) : e ∈ insertEntry e log := by
  induction log with
  | nil => simp [insertEntry]
  | cons f fs ih => simp only [insertEntry]; (repeat' split) <;> simp [ih]

theorem InDayOrder.insertEntry {e : ClosureEntry} {log : List ClosureEntry} (h : InDayOrder log) :
    InDayOrder (insertEntry e log) := by
  induction log with
  | nil => simp [Machine.insertEntry]
  | cons f fs ih =>
    obtain ⟨first, rest⟩ := List.pairwise_cons.mp h
    simp only [Machine.insertEntry]
    split
    · refine List.pairwise_cons.mpr ⟨fun x m => ?_, h⟩
      rcases List.mem_cons.mp m with rfl | m
      · assumption
      · have := first x m; omega
    · split
      · rename_i eq
        exact List.pairwise_cons.mpr ⟨fun x m => by rw [eq]; exact first x m, rest⟩
      · refine List.pairwise_cons.mpr ⟨fun x m => ?_, ih rest⟩
        rcases mem_insertEntry m with rfl | m
        · omega
        · exact first x m

/-- An entry of a day that the log holds takes its place; any other makes the log longer by one. -/
theorem length_insertEntry {e : ClosureEntry} {log : List ClosureEntry} (h : InDayOrder log) :
    (insertEntry e log).length = log.length + (if (entryOf log e.day).isNone then 1 else 0) := by
  induction log with
  | nil => rfl
  | cons f fs ih =>
    obtain ⟨first, rest⟩ := List.pairwise_cons.mp h
    have ih := ih rest
    simp only [Machine.insertEntry]
    split
    · rename_i lt
      have none_ : entryOf (f :: fs) e.day = none := by
        rw [entryOf, List.find?_eq_none]
        intro x m
        rcases List.mem_cons.mp m with rfl | m
        · simp; omega
        · have := first x m; simp; omega
      simp [none_]
    · split
      · rename_i eq; simp [entryOf, eq]
      · rename_i ne
        have other : entryOf (f :: fs) e.day = entryOf fs e.day := by
          rw [entryOf, List.find?_cons_of_neg (by simp; omega), entryOf]
        rw [other, List.length_cons, List.length_cons, ih]
        omega

/-- The entry that lies furthest from a day is one of the log. -/
theorem furthest_mem {day : Nat} {log : List ClosureEntry} {f : ClosureEntry} (h : furthest day log = some f) : f ∈ log := by
  induction log generalizing f with
  | nil => simp [furthest] at h
  | cons e es ih =>
    simp only [furthest] at h
    split at h
    · simp_all
    · split at h
      · simp_all
      · rename_i g eq _
        rw [Option.some.injEq] at h
        exact List.mem_cons_of_mem _ (ih (h ▸ eq))

theorem furthest_isSome {day : Nat} {log : List ClosureEntry} (h : log ≠ []) : ∃ f, furthest day log = some f := by
  match log, h with
  | e :: es, _ =>
    simp only [furthest]
    split
    · exact ⟨_, rfl⟩
    · split <;> exact ⟨_, rfl⟩

/-- An entry set in the log stands in it; the log keeps its form and its capacity (R131). -/
theorem setEntry_ok {e : ClosureEntry} {log : List ClosureEntry} (h : InDayOrder log) (len : log.length ≤ 96) :
    e ∈ setEntry e log ∧ InDayOrder (setEntry e log) ∧ (setEntry e log).length ≤ 96 := by
  unfold setEntry
  split
  · rename_i full
    simp only [closureCapacity, Bool.and_eq_true] at full
    obtain ⟨f, eq⟩ := furthest_isSome (day := e.day) (log := log) (by rintro rfl; simp at full)
    have kept : InDayOrder (log.filter (fun x => x.day != f.day)) := List.Pairwise.filter _ h
    have fewer : (log.filter (fun x => x.day != f.day)).length < log.length :=
      List.length_filter_lt_length_iff_exists.mpr ⟨f, furthest_mem eq, by simp⟩
    simp only [eq]
    refine ⟨mem_insertEntry_self _ _, kept.insertEntry, ?_⟩
    rw [length_insertEntry kept]
    split <;> omega
  · rename_i room
    refine ⟨mem_insertEntry_self _ _, h.insertEntry, ?_⟩
    rw [length_insertEntry h]
    simp only [closureCapacity, Bool.and_eq_true, not_and] at room
    split
    · have : ¬ 96 ≤ log.length := fun le => room ‹_› (decide_eq_true le)
      omega
    · omega

/-- The log rebuilt from the store keeps its form and its capacity (R131, R137). -/
theorem LogOk.rebuildLog {s : State} (h : LogOk s) : LogOk (rebuildLog s) := by
  have step : ∀ (es log : List ClosureEntry), InDayOrder log → log.length ≤ 96 →
      InDayOrder (es.foldl joinStored log) ∧ (es.foldl joinStored log).length ≤ 96 := by
    intro es
    induction es with
    | nil => intro log h len; exact ⟨h, len⟩
    | cons e es ih =>
      intro log h len
      have joined : InDayOrder (joinStored log e) ∧ (joinStored log e).length ≤ 96 := by
        unfold joinStored
        split
        · exact (setEntry_ok h len).2
        · rename_i x found
          have day : (x.filledFrom e).day = x.day := rfl
          have held : entryOf log x.day = some x := by
            have := List.find?_some found
            rw [show x.day = e.day by simpa using this]; exact found
          exact ⟨h.insertEntry, by rw [length_insertEntry h, day, held]; simpa using len⟩
      exact ih _ joined.1 joined.2
  exact step _ _ h.1 h.2

end Sys2Proof.Machine
end

