-- ==== Sys2Proof/Laws/Memory.lean ====
section
/-! SUPPORT. The laws of the store device's bytes: a read after a write, and every operation keeps the canonical form. -/

namespace Sys2Proof.Machine
-- one theorem at a time: the package as one text elaborates within the memory limit
set_option Elab.async false

/-- What the canonical form says of a first entry. -/
theorem wfFrom_cons {low k : Nat} {b : Byte} {m : Memory} :
    Memory.wfFrom low ((k, b) :: m) = true ↔ low ≤ k ∧ b ≠ 0#8 ∧ Memory.wfFrom (k + 1) m = true := by
  simp [Memory.wfFrom, and_assoc]

/-- A canonical list from `low` on is one from every lower address on. -/
theorem wfFrom_mono {m : Memory} {low low' : Nat} (h : low ≤ low') (w : Memory.wfFrom low' m = true) :
    Memory.wfFrom low m = true := by
  cases m with
  | nil => rfl
  | cons c rest => obtain ⟨k, b⟩ := c; rw [wfFrom_cons] at *; exact ⟨by omega, w.2⟩

theorem wfFrom_write {m : Memory} {low a : Nat} {b : Byte} (w : Memory.wfFrom low m = true) (h : low ≤ a) :
    Memory.wfFrom low (m.write a b) = true := by
  induction m generalizing low with
  | nil =>
    unfold Memory.write
    split
    · rfl
    · exact wfFrom_cons.2 ⟨h, by assumption, rfl⟩
  | cons c rest ih =>
    obtain ⟨k, c⟩ := c
    obtain ⟨hk, hc, hr⟩ := wfFrom_cons.1 w
    unfold Memory.write
    split
    · split
      · exact w
      · exact wfFrom_cons.2 ⟨h, by assumption, wfFrom_cons.2 ⟨by omega, hc, hr⟩⟩
    · split
      · subst_vars
        split
        · exact wfFrom_mono (by omega) hr
        · exact wfFrom_cons.2 ⟨hk, by assumption, hr⟩
      · exact wfFrom_cons.2 ⟨hk, hc, ih hr (by omega)⟩

/-- A written byte leaves the canonical form. -/
theorem wf_write {m : Memory} {a : Nat} {b : Byte} (w : m.wf = true) : (m.write a b).wf = true :=
  wfFrom_write w (Nat.zero_le a)

/-- A write of several bytes leaves the canonical form. -/
theorem wf_writeBytes {m : Memory} {a : Nat} {bs : List Byte} (w : m.wf = true) : (m.writeBytes a bs).wf = true := by
  induction bs generalizing m a with
  | nil => exact w
  | cons b bs ih => exact ih (wf_write w)

theorem wfFrom_filter {m : Memory} {low : Nat} {f : Host.Cell → Bool} (w : Memory.wfFrom low m = true) :
    Memory.wfFrom low (m.filter f) = true := by
  induction m generalizing low with
  | nil => rfl
  | cons c rest ih =>
    obtain ⟨k, c⟩ := c
    obtain ⟨hk, hc, hr⟩ := wfFrom_cons.1 w
    rw [List.filter_cons]
    split
    · exact wfFrom_cons.2 ⟨hk, hc, ih hr⟩
    · exact wfFrom_mono (by omega) (ih hr)

/-- A cleared run of bytes leaves the canonical form. -/
theorem wf_clear {m : Memory} {a n : Nat} (w : m.wf = true) : (m.clear a n).wf = true := wfFrom_filter w

theorem read_below {m : Memory} {low a : Nat} (w : Memory.wfFrom low m = true) (h : a < low) : m.read a = 0 := by
  induction m generalizing low with
  | nil => rfl
  | cons c rest ih =>
    obtain ⟨k, c⟩ := c
    obtain ⟨hk, _, hr⟩ := wfFrom_cons.1 w
    have : k ≠ a := by omega
    simp [Memory.read, this, ih hr (by omega)]

/-- A read after a write: the byte written at its address, every other byte as it was. -/
theorem read_write {m : Memory} {a c : Nat} {b : Byte} (w : m.wf = true) :
    (m.write a b).read c = if c = a then b else m.read c := by
  have key : ∀ (m : Memory) (low : Nat), Memory.wfFrom low m = true →
      (m.write a b).read c = if c = a then b else m.read c := by
    intro m
    induction m with
    | nil =>
      intro low _
      by_cases hb : b = 0#8
      · simp [Memory.write, hb, Memory.read]
      · by_cases hc : c = a
        · simp [Memory.write, Memory.read, hc, hb]
        · have : ¬ a = c := fun e => hc e.symm
          simp [Memory.write, Memory.read, hc, hb, this]
    | cons x rest ih =>
      intro low hw
      obtain ⟨k, y⟩ := x
      obtain ⟨hk, hy, hr⟩ := wfFrom_cons.1 hw
      have ih' := ih (k + 1) hr
      unfold Memory.write
      split
      · rename_i hak
        split
        · rename_i hb
          by_cases hc : c = a
          · subst hc
            have h1 : k ≠ c := by omega
            simp [Memory.read, h1, hb, read_below hr (by omega : c < k + 1)]
          · simp [hc]
        · by_cases hc : c = a
          · simp [Memory.read, hc]
          · have : a ≠ c := fun e => hc e.symm
            simp [Memory.read, hc, this]
      · split
        · rename_i hak
          subst hak
          split
          · rename_i hb
            by_cases hc : c = a
            · subst hc; simp [hb, read_below hr (by omega : c < c + 1)]
            · have : a ≠ c := fun e => hc e.symm
              simp [Memory.read, hc, this]
          · by_cases hc : c = a
            · simp [Memory.read, hc]
            · have : a ≠ c := fun e => hc e.symm
              simp [Memory.read, hc, this]
        · rename_i h1 h2
          by_cases hkc : k = c
          · have : ¬ c = a := by omega
            simp [Memory.read, hkc, this]
          · simp [Memory.read, hkc, ih']
  exact key m 0 w

/-- A read after a write of several bytes. -/
theorem read_writeBytes {m : Memory} {a c : Nat} {bs : List Byte} (w : m.wf = true) :
    (m.writeBytes a bs).read c = if a ≤ c ∧ c < a + bs.length then bs.getD (c - a) 0 else m.read c := by
  induction bs generalizing m a with
  | nil =>
    have : ¬ (a ≤ c ∧ c < a + ([] : List Byte).length) := by simp
    simp only [this, if_false]; rfl
  | cons b bs ih =>
    simp only [Memory.writeBytes, ih (wf_write w), read_write w, List.length_cons]
    by_cases h1 : a + 1 ≤ c ∧ c < a + 1 + bs.length
    · have h2 : a ≤ c ∧ c < a + (bs.length + 1) := by omega
      have h3 : c - a = (c - (a + 1)) + 1 := by omega
      rw [if_pos h1, if_pos h2, h3]; simp
    · rw [if_neg h1]
      by_cases h4 : c = a
      · subst h4; simp
      · have h5 : ¬ (a ≤ c ∧ c < a + (bs.length + 1)) := by omega
        rw [if_neg h5, if_neg h4]

/-- A read after a run was cleared. -/
theorem read_clear {m : Memory} {a n c : Nat} :
    (m.clear a n).read c = if a ≤ c ∧ c < a + n then 0 else m.read c := by
  induction m with
  | nil => simp [Memory.clear, Memory.read]
  | cons x rest ih =>
    obtain ⟨k, y⟩ := x
    unfold Memory.clear at *
    rw [List.filter_cons]
    by_cases hk : k < a ∨ a + n ≤ k
    · simp only [hk, Bool.or_eq_true, decide_eq_true_eq, if_true, Memory.read, ih]
      by_cases hkc : k = c
      · subst hkc
        have : ¬ (a ≤ k ∧ k < a + n) := by omega
        simp [this]
      · simp [hkc]
    · simp only [Bool.or_eq_true, decide_eq_true_eq, hk, if_false, ih, Memory.read]
      by_cases hkc : k = c
      · subst hkc
        have : a ≤ k ∧ k < a + n := by omega
        simp [this]
      · simp [hkc]

end Sys2Proof.Machine
end

