-- ==== Sys2Proof/Laws/PerInstr.lean ====
section
/-! SUPPORT. The family KindTag: a well-formed command has the kind of a request of R210, 1 to 34, or kind 0 where it is
an event, and its tag fits one byte. One lemma a constructor of `Instr`. -/

namespace Sys2Proof.Laws
-- one theorem at a time: the package as one text elaborates within the memory limit
set_option Elab.async false

theorem tag_of_fits {n : Nat} (h : fits 1 n = true) : n < 256 := by simpa [fits] using h

theorem left_of_and {a b : Bool} (h : (a && b) = true) : a = true := (Bool.and_eq_true_iff.mp h).1

/-- The kind and the tag that the replies of a command carry fit their bytes, and the kind is one of R210 or 0. -/
def KindTag.Statement (i : Instr) : Prop :=
  i.wf = true → (Machine.requestKindTag i).1 ≤ 34 ∧ (Machine.requestKindTag i).2 < 256

theorem KindTag.ident (tag : Nat) : KindTag.Statement (.ident tag) :=
  fun h => ⟨Nat.le_of_ble_eq_true rfl, tag_of_fits h⟩

theorem KindTag.status (tag : Nat) : KindTag.Statement (.status tag) :=
  fun h => ⟨Nat.le_of_ble_eq_true rfl, tag_of_fits h⟩

theorem KindTag.flagsTake (tag : Nat) : KindTag.Statement (.flagsTake tag) :=
  fun h => ⟨Nat.le_of_ble_eq_true rfl, tag_of_fits h⟩

theorem KindTag.noticeLevels (tag floor : Nat) (pairs : List (Nat × Nat)) : KindTag.Statement (.noticeLevels tag floor pairs) :=
  fun h => ⟨Nat.le_of_ble_eq_true rfl, tag_of_fits (left_of_and (left_of_and (left_of_and h)))⟩

theorem KindTag.restart (tag : Nat) : KindTag.Statement (.restart tag) :=
  fun h => ⟨Nat.le_of_ble_eq_true rfl, tag_of_fits h⟩

theorem KindTag.bankConfig (tag : Nat) (patch : BankPatch) : KindTag.Statement (.bankConfig tag patch) :=
  fun h => ⟨Nat.le_of_ble_eq_true rfl, tag_of_fits (left_of_and h)⟩

theorem KindTag.settingsSave (tag : Nat) : KindTag.Statement (.settingsSave tag) :=
  fun h => ⟨Nat.le_of_ble_eq_true rfl, tag_of_fits h⟩

theorem KindTag.productPut (tag code : Nat) (entry : RawProduct) : KindTag.Statement (.productPut tag code entry) :=
  fun h => ⟨Nat.le_of_ble_eq_true rfl, tag_of_fits (left_of_and (left_of_and h))⟩

theorem KindTag.productGet (tag code : Nat) : KindTag.Statement (.productGet tag code) :=
  fun h => ⟨Nat.le_of_ble_eq_true rfl, tag_of_fits (left_of_and h)⟩

theorem KindTag.laneMode (tag lane mode : Nat) : KindTag.Statement (.laneMode tag lane mode) :=
  fun h => ⟨Nat.le_of_ble_eq_true rfl, tag_of_fits (left_of_and (left_of_and h))⟩

theorem KindTag.timeSet (tag day sec : Nat) : KindTag.Statement (.timeSet tag day sec) :=
  fun h => ⟨Nat.le_of_ble_eq_true rfl, tag_of_fits (left_of_and (left_of_and h))⟩

theorem KindTag.scheduleSet (tag openSec closeSec lead : Nat) : KindTag.Statement (.scheduleSet tag openSec closeSec lead) :=
  fun h => ⟨Nat.le_of_ble_eq_true rfl, tag_of_fits (left_of_and (left_of_and (left_of_and h)))⟩

theorem KindTag.holdBegin (tag cause : Nat) : KindTag.Statement (.holdBegin tag cause) :=
  fun h => ⟨Nat.le_of_ble_eq_true rfl, tag_of_fits (left_of_and h)⟩

theorem KindTag.holdEnd (tag : Nat) : KindTag.Statement (.holdEnd tag) :=
  fun h => ⟨Nat.le_of_ble_eq_true rfl, tag_of_fits h⟩

theorem KindTag.closureNote (tag day loss : Nat) : KindTag.Statement (.closureNote tag day loss) :=
  fun h => ⟨Nat.le_of_ble_eq_true rfl, tag_of_fits (left_of_and (left_of_and h))⟩

theorem KindTag.closureGet (tag day count : Nat) : KindTag.Statement (.closureGet tag day count) :=
  fun h => ⟨Nat.le_of_ble_eq_true rfl, tag_of_fits (left_of_and (left_of_and h))⟩

theorem KindTag.storeRecover (tag : Nat) : KindTag.Statement (.storeRecover tag) :=
  fun h => ⟨Nat.le_of_ble_eq_true rfl, tag_of_fits h⟩

theorem KindTag.storeFormat (tag : Nat) : KindTag.Statement (.storeFormat tag) :=
  fun h => ⟨Nat.le_of_ble_eq_true rfl, tag_of_fits h⟩

theorem KindTag.linkState (tag link : Nat) : KindTag.Statement (.linkState tag link) :=
  fun h => ⟨Nat.le_of_ble_eq_true rfl, tag_of_fits (left_of_and h)⟩

theorem KindTag.inquiryAnswer (tag number verdict : Nat) (record : Option RawRecord) : KindTag.Statement (.inquiryAnswer tag number verdict record) :=
  fun h => ⟨Nat.le_of_ble_eq_true rfl, tag_of_fits (left_of_and (left_of_and (left_of_and h)))⟩

theorem KindTag.refundQuote (tag pass : Nat) : KindTag.Statement (.refundQuote tag pass) :=
  fun h => ⟨Nat.le_of_ble_eq_true rfl, tag_of_fits (left_of_and h)⟩

theorem KindTag.refundCommit (tag pass amount : Nat) : KindTag.Statement (.refundCommit tag pass amount) :=
  fun h => ⟨Nat.le_of_ble_eq_true rfl, tag_of_fits (left_of_and (left_of_and h))⟩

theorem KindTag.passPut (tag : Nat) (record : RawRecord) : KindTag.Statement (.passPut tag record) :=
  fun h => ⟨Nat.le_of_ble_eq_true rfl, tag_of_fits (left_of_and h)⟩

theorem KindTag.passMerge (tag : Nat) (merge : RawMerge) : KindTag.Statement (.passMerge tag merge) :=
  fun h => ⟨Nat.le_of_ble_eq_true rfl, tag_of_fits (left_of_and h)⟩

theorem KindTag.passStatus (tag pass status amountFlag amount : Nat) : KindTag.Statement (.passStatus tag pass status amountFlag amount) :=
  fun h => ⟨Nat.le_of_ble_eq_true rfl, tag_of_fits (left_of_and (left_of_and (left_of_and (left_of_and h))))⟩

theorem KindTag.passDrop (tag pass : Nat) : KindTag.Statement (.passDrop tag pass) :=
  fun h => ⟨Nat.le_of_ble_eq_true rfl, tag_of_fits (left_of_and h)⟩

theorem KindTag.passRead (tag pass : Nat) : KindTag.Statement (.passRead tag pass) :=
  fun h => ⟨Nat.le_of_ble_eq_true rfl, tag_of_fits (left_of_and h)⟩

theorem KindTag.denyAdd (tag pass : Nat) : KindTag.Statement (.denyAdd tag pass) :=
  fun h => ⟨Nat.le_of_ble_eq_true rfl, tag_of_fits (left_of_and h)⟩

theorem KindTag.denyRemove (tag pass : Nat) : KindTag.Statement (.denyRemove tag pass) :=
  fun h => ⟨Nat.le_of_ble_eq_true rfl, tag_of_fits (left_of_and h)⟩

theorem KindTag.denyClear (tag : Nat) : KindTag.Statement (.denyClear tag) :=
  fun h => ⟨Nat.le_of_ble_eq_true rfl, tag_of_fits h⟩

theorem KindTag.journalRead (tag count : Nat) : KindTag.Statement (.journalRead tag count) :=
  fun h => ⟨Nat.le_of_ble_eq_true rfl, tag_of_fits (left_of_and h)⟩

theorem KindTag.journalRelease (tag epoch seq : Nat) : KindTag.Statement (.journalRelease tag epoch seq) :=
  fun h => ⟨Nat.le_of_ble_eq_true rfl, tag_of_fits (left_of_and (left_of_and h))⟩

theorem KindTag.countsGet (tag scope lane : Nat) : KindTag.Statement (.countsGet tag scope lane) :=
  fun h => ⟨Nat.le_of_ble_eq_true rfl, tag_of_fits (left_of_and (left_of_and h))⟩

theorem KindTag.countsClear (tag : Nat) : KindTag.Statement (.countsClear tag) :=
  fun h => ⟨Nat.le_of_ble_eq_true rfl, tag_of_fits h⟩

theorem KindTag.dispatchRefusal (kind tag : Nat) (body : List Byte) : KindTag.Statement (.dispatchRefusal kind tag body) :=
  fun _ => ⟨Nat.zero_le 34, Nat.succ_pos 255⟩

theorem KindTag.frameBadCheck (bytes : List Byte) : KindTag.Statement (.frameBadCheck bytes) :=
  fun _ => ⟨Nat.zero_le 34, Nat.succ_pos 255⟩

theorem KindTag.frameIdleGap (bytes : List Byte) : KindTag.Statement (.frameIdleGap bytes) :=
  fun _ => ⟨Nat.zero_le 34, Nat.succ_pos 255⟩

theorem KindTag.bodyLengthOver (bytes : List Byte) : KindTag.Statement (.bodyLengthOver bytes) :=
  fun _ => ⟨Nat.zero_le 34, Nat.succ_pos 255⟩

theorem KindTag.stopBitMissing (bytes : List Byte) : KindTag.Statement (.stopBitMissing bytes) :=
  fun _ => ⟨Nat.zero_le 34, Nat.succ_pos 255⟩

theorem KindTag.strayRunEnd (byStart : Bool) : KindTag.Statement (.strayRunEnd byStart) :=
  fun _ => ⟨Nat.zero_le 34, Nat.succ_pos 255⟩

theorem KindTag.skipIdleEnd : KindTag.Statement (.skipIdleEnd) :=
  fun _ => ⟨Nat.zero_le 34, Nat.succ_pos 255⟩

theorem KindTag.frameSent : KindTag.Statement (.frameSent) :=
  fun _ => ⟨Nat.zero_le 34, Nat.succ_pos 255⟩

theorem KindTag.fieldEnter (lane : LaneNo) (medium : Nat) : KindTag.Statement (.fieldEnter lane medium) :=
  fun _ => ⟨Nat.zero_le 34, Nat.succ_pos 255⟩

theorem KindTag.image (lane : LaneNo) (bytes : List Byte) : KindTag.Statement (.image lane bytes) :=
  fun _ => ⟨Nat.zero_le 34, Nat.succ_pos 255⟩

theorem KindTag.readFail (lane : LaneNo) : KindTag.Statement (.readFail lane) :=
  fun _ => ⟨Nat.zero_le 34, Nat.succ_pos 255⟩

theorem KindTag.fieldLeave (lane : LaneNo) : KindTag.Statement (.fieldLeave lane) :=
  fun _ => ⟨Nat.zero_le 34, Nat.succ_pos 255⟩

theorem KindTag.feStatus (lane : LaneNo) : KindTag.Statement (.feStatus lane) :=
  fun _ => ⟨Nat.zero_le 34, Nat.succ_pos 255⟩

theorem KindTag.feFrameDiscarded (lane : LaneNo) (bytes : List Byte) : KindTag.Statement (.feFrameDiscarded lane bytes) :=
  fun _ => ⟨Nat.zero_le 34, Nat.succ_pos 255⟩

theorem KindTag.feFrameGap (lane : LaneNo) : KindTag.Statement (.feFrameGap lane) :=
  fun _ => ⟨Nat.zero_le 34, Nat.succ_pos 255⟩

theorem KindTag.feReadSend (lane : LaneNo) : KindTag.Statement (.feReadSend lane) :=
  fun _ => ⟨Nat.zero_le 34, Nat.succ_pos 255⟩

theorem KindTag.silenceTimerExpiry (lane : LaneNo) : KindTag.Statement (.silenceTimerExpiry lane) :=
  fun _ => ⟨Nat.zero_le 34, Nat.succ_pos 255⟩

theorem KindTag.entryBeamBreak (lane : LaneNo) (seen held : Nat) : KindTag.Statement (.entryBeamBreak lane seen held) :=
  fun _ => ⟨Nat.zero_le 34, Nat.succ_pos 255⟩

theorem KindTag.entryBeamClear (lane : LaneNo) (seen held : Nat) : KindTag.Statement (.entryBeamClear lane seen held) :=
  fun _ => ⟨Nat.zero_le 34, Nat.succ_pos 255⟩

theorem KindTag.exitBeamBreak (lane : LaneNo) (seen held : Nat) : KindTag.Statement (.exitBeamBreak lane seen held) :=
  fun _ => ⟨Nat.zero_le 34, Nat.succ_pos 255⟩

theorem KindTag.exitBeamClear (lane : LaneNo) (seen held : Nat) : KindTag.Statement (.exitBeamClear lane seen held) :=
  fun _ => ⟨Nat.zero_le 34, Nat.succ_pos 255⟩

theorem KindTag.rotationPulse (lane : LaneNo) (seen held : Nat) : KindTag.Statement (.rotationPulse lane seen held) :=
  fun _ => ⟨Nat.zero_le 34, Nat.succ_pos 255⟩

theorem KindTag.denyDisplayEnd (lane : LaneNo) : KindTag.Statement (.denyDisplayEnd lane) :=
  fun _ => ⟨Nat.zero_le 34, Nat.succ_pos 255⟩

theorem KindTag.grantExpiry (lane : LaneNo) : KindTag.Statement (.grantExpiry lane) :=
  fun _ => ⟨Nat.zero_le 34, Nat.succ_pos 255⟩

theorem KindTag.passingLimitExpiry (lane : LaneNo) : KindTag.Statement (.passingLimitExpiry lane) :=
  fun _ => ⟨Nat.zero_le 34, Nat.succ_pos 255⟩

theorem KindTag.beamStuckExpiry (lane : LaneNo) : KindTag.Statement (.beamStuckExpiry lane) :=
  fun _ => ⟨Nat.zero_le 34, Nat.succ_pos 255⟩

theorem KindTag.chairPulse (seen held : Nat) : KindTag.Statement (.chairPulse seen held) :=
  fun _ => ⟨Nat.zero_le 34, Nat.succ_pos 255⟩

theorem KindTag.windowTimerExpiry : KindTag.Statement (.windowTimerExpiry) :=
  fun _ => ⟨Nat.zero_le 34, Nat.succ_pos 255⟩

theorem KindTag.haltDetectExpiry : KindTag.Statement (.haltDetectExpiry) :=
  fun _ => ⟨Nat.zero_le 34, Nat.succ_pos 255⟩

theorem KindTag.waitTimerExpiry (lane : LaneNo) : KindTag.Statement (.waitTimerExpiry lane) :=
  fun _ => ⟨Nat.zero_le 34, Nat.succ_pos 255⟩

theorem KindTag.inquiryTimeoutExpiry : KindTag.Statement (.inquiryTimeoutExpiry) :=
  fun _ => ⟨Nat.zero_le 34, Nat.succ_pos 255⟩

theorem KindTag.inquiryWaitExpiry (lane : LaneNo) : KindTag.Statement (.inquiryWaitExpiry lane) :=
  fun _ => ⟨Nat.zero_le 34, Nat.succ_pos 255⟩

theorem KindTag.lookupComplete : KindTag.Statement (.lookupComplete) :=
  fun _ => ⟨Nat.zero_le 34, Nat.succ_pos 255⟩

theorem KindTag.postingReadComplete : KindTag.Statement (.postingReadComplete) :=
  fun _ => ⟨Nat.zero_le 34, Nat.succ_pos 255⟩

theorem KindTag.postingCycleEnd : KindTag.Statement (.postingCycleEnd) :=
  fun _ => ⟨Nat.zero_le 34, Nat.succ_pos 255⟩

theorem KindTag.storeOpFailed : KindTag.Statement (.storeOpFailed) :=
  fun _ => ⟨Nat.zero_le 34, Nat.succ_pos 255⟩

theorem KindTag.storeOpTimeout : KindTag.Statement (.storeOpTimeout) :=
  fun _ => ⟨Nat.zero_le 34, Nat.succ_pos 255⟩

theorem KindTag.lookupPromotion (lane : LaneNo) : KindTag.Statement (.lookupPromotion lane) :=
  fun _ => ⟨Nat.zero_le 34, Nat.succ_pos 255⟩

theorem KindTag.mountHeaderRead : KindTag.Statement (.mountHeaderRead) :=
  fun _ => ⟨Nat.zero_le 34, Nat.succ_pos 255⟩

theorem KindTag.mountClosureRead : KindTag.Statement (.mountClosureRead) :=
  fun _ => ⟨Nat.zero_le 34, Nat.succ_pos 255⟩

theorem KindTag.recoverHeaderRead : KindTag.Statement (.recoverHeaderRead) :=
  fun _ => ⟨Nat.zero_le 34, Nat.succ_pos 255⟩

theorem KindTag.formatWriteComplete : KindTag.Statement (.formatWriteComplete) :=
  fun _ => ⟨Nat.zero_le 34, Nat.succ_pos 255⟩

theorem KindTag.clockAdvance : KindTag.Statement (.clockAdvance) :=
  fun _ => ⟨Nat.zero_le 34, Nat.succ_pos 255⟩

theorem KindTag.supplyLoss : KindTag.Statement (.supplyLoss) :=
  fun _ => ⟨Nat.zero_le 34, Nat.succ_pos 255⟩

theorem KindTag.powerReturn : KindTag.Statement (.powerReturn) :=
  fun _ => ⟨Nat.zero_le 34, Nat.succ_pos 255⟩

theorem KindTag.resetAssert : KindTag.Statement (.resetAssert) :=
  fun _ => ⟨Nat.zero_le 34, Nat.succ_pos 255⟩

theorem KindTag.resetRelease : KindTag.Statement (.resetRelease) :=
  fun _ => ⟨Nat.zero_le 34, Nat.succ_pos 255⟩

theorem KindTag.retainedSupplyLoss : KindTag.Statement (.retainedSupplyLoss) :=
  fun _ => ⟨Nat.zero_le 34, Nat.succ_pos 255⟩

theorem KindTag.coldStart (epochSaved defaultSaved : Bool) : KindTag.Statement (.coldStart epochSaved defaultSaved) :=
  fun _ => ⟨Nat.zero_le 34, Nat.succ_pos 255⟩

theorem KindTag.settingsWriteDone (good : Bool) : KindTag.Statement (.settingsWriteDone good) :=
  fun _ => ⟨Nat.zero_le 34, Nat.succ_pos 255⟩

end Sys2Proof.Laws
end

