-- ==== Sys2Proof/Laws/Receiver.lean ====
section
/-! SUPPORT. Numbers as bytes, and what the receiver makes of a run of bytes (R187). -/

namespace Sys2Proof.Machine
-- one theorem at a time: the package as one text elaborates within the memory limit
set_option Elab.async false

@[simp] theorem length_leBytes (w n : Nat) : (leBytes w n).length = w := by
  induction w generalizing n with
  | zero => rfl
  | succ w ih => simp [leBytes, ih]

/-- A number that fits its bytes is what they stand for. -/
theorem leNat_leBytes {w n : Nat} (h : n < 256 ^ w) : leNat (leBytes w n) = n := by
  induction w generalizing n with
  | zero => simp [leBytes, leNat] at *; omega
  | succ w ih =>
    have : n / 256 < 256 ^ w := by rw [Nat.pow_succ] at h; omega
    simp only [leBytes, leNat, ih this, BitVec.toNat_ofNat]
    omega

theorem leNat_lt (bs : List Byte) : leNat bs < 256 ^ bs.length := by
  induction bs with
  | nil => simp [leNat]
  | cons b bs ih => have := b.isLt; simp only [leNat, List.length_cons, Nat.pow_succ]; omega

/-- Bytes are those of the number they stand for. -/
theorem leBytes_leNat (bs : List Byte) : leBytes bs.length (leNat bs) = bs := by
  induction bs with
  | nil => rfl
  | cons b bs ih =>
    have low : (b.toNat + 256 * leNat bs) / 256 = leNat bs := by have := b.isLt; omega
    have high : BitVec.ofNat 8 (b.toNat + 256 * leNat bs) = b := by
      apply BitVec.eq_of_toNat_eq; have := b.isLt; simp only [BitVec.toNat_ofNat]; omega
    simp [leBytes, leNat, low, high, ih]

/-- A field that lies in the first of two runs is the field of that run. -/
theorem field_append {xs ys : List Byte} {offset w : Nat} (h : offset + w ≤ xs.length) :
    field (xs ++ ys) offset w = field xs offset w := by
  unfold field
  rw [List.drop_append_of_le_length (by omega), List.take_append_of_le_length (by simp; omega)]

/-- Bytes that bring nothing about leave the receiver to the bytes behind them. -/
theorem receive_append {r : Receiver} {xs ys : List Byte} (h : (receive r xs).2 = none) :
    receive r (xs ++ ys) = receive (receive r xs).1 ys := by
  induction xs generalizing r with
  | nil => rfl
  | cons b bs ih =>
    simp only [List.cons_append, receive] at *
    rcases e : receiveByte r b with ⟨after, _ | found⟩
    · simp only [e] at h ⊢
      exact ih h
    · simp [e] at h

/-- A byte that brings a length above 240 puts the receiver in SKIP. -/
theorem receiveByte_tooLong {before : List Byte} {b : Byte} (two : 2 ≤ before.length + 1)
    (long : 240 < field (before ++ [b]) 0 2) : receiveByte (.frame before) b = (.skip, some .tooLong) := by
  unfold receiveByte
  simp only [List.length_append, List.length_singleton]
  (repeat' split) <;> first | rfl | omega

/-- A byte of a frame before its last. -/
theorem receiveByte_more {before : List Byte} {b : Byte}
    (more : before.length + 1 < 2 ∨
      field (before ++ [b]) 0 2 ≤ 240 ∧ before.length + 1 < field (before ++ [b]) 0 2 + 6) :
    receiveByte (.frame before) b = (.frame (before ++ [b]), none) := by
  unfold receiveByte
  simp only [List.length_append, List.length_singleton]
  (repeat' split) <;> first | rfl | omega

/-- The last byte of a frame. -/
theorem receiveByte_last {before : List Byte} {b : Byte} (fits : field (before ++ [b]) 0 2 ≤ 240)
    (last : before.length + 1 = field (before ++ [b]) 0 2 + 6) :
    receiveByte (.frame before) b = (.hunt, some (frameOf (field (before ++ [b]) 0 2) (before ++ [b]))) := by
  unfold receiveByte
  simp only [List.length_append, List.length_singleton]
  (repeat' split) <;> first | rfl | omega

end Sys2Proof.Machine
end

