-- ==== Sys2Proof/Laws/Requests.lean ====
section
/-! SUPPORT. What the shared operations on requests and lanes do, said once: a request that finds a slot, its reply, a
request that is turned away; the store port served; the seat meter at an evaluation of the schedule state; the entries to the
lane states; raising an event class. -/

namespace Sys2Proof.Machine
-- one theorem at a time: the package as one text elaborates within the memory limit
set_option Elab.async false
open Sys2Proof.Config

/-! ### Requests -/

theorem takeRequest_slot {s : State} {k : SlotNo} (h : SlotFor s k) (i : Instr) (owner : SlotNo → State → State) :
    takeRequest i owner s = owner k (s.withHlc (s.hlc.holding i k .taken)) := by
  have hf : freeSlot (s.withHlc { s.hlc with receiver := .hunt }) = some k := h.2
  simp only [takeRequest, h.1, if_true, hf]
  rfl

theorem takeRequest_busy {s : State} (h : hostHears s = true) (hf : freeSlot s = none) (i : Instr)
    (owner : SlotNo → State → State) :
    takeRequest i owner s =
      immediateReply (requestKindTag i).1 (requestKindTag i).2 .busy
        (s.withHlc { s.hlc with receiver := .hunt }) := by
  have hf' : freeSlot (s.withHlc { s.hlc with receiver := .hunt }) = none := hf
  simp only [takeRequest, h, if_true, hf']

theorem takeRequest_unheard {s : State} (h : hostHears s = false) (i : Instr) (owner : SlotNo → State → State) :
    takeRequest i owner s = s := by simp [takeRequest, h]

theorem reply_holding (s : State) (h : HlcState) (i : Instr) (k : SlotNo) (p : Progress) (r : Reply) :
    reply k r (s.withHlc (h.holding i k p)) = s.withHlc (h.answered i k r) := by
  simp [reply, HlcState.holding, HlcState.answered, sendFrame, State.withQueue, State.setSlot, State.withHlc]

theorem refuse_holding (s : State) (h : HlcState) (i : Instr) (k : SlotNo) (p : Progress) (st : Status) :
    refuse k st (s.withHlc (h.holding i k p)) = s.withHlc (h.answered i k (.status st)) :=
  reply_holding s h i k p (.status st)

theorem setProgress_holding (s : State) (h : HlcState) (i : Instr) (k : SlotNo) (p q : Progress) :
    setProgress k q (s.withHlc (h.holding i k p)) = s.withHlc (h.holding i k q) := by
  simp [setProgress, HlcState.holding, State.setSlot, State.withHlc]

/-! ### Grant passes -/

theorem granting_eq (s : State) : s.granting = grantPass s := by
  unfold State.granting
  split
  · rename_i h; simp [grantPass, h, offerAll]
  · rfl

theorem granting_of_none {s : State} (h : s.sm.waiting = []) : s.granting = s := if_pos h

/-- What opening a window does (R100, R114): the grant pass of the state with the ended window's figures and the new window. -/
theorem openWindow_eq (s : State) : openWindow s =
    grantPass ((s.withJnl { s.jnl with day := (match s.sm.window with
      | none => s.jnl.day
      | some w => if w.counted then { s.jnl.day with
          windows := addSat s.jnl.day.windows 1, seatsOffered := addSat s.jnl.day.seatsOffered w.seats
          seatsGranted := addSat s.jnl.day.seatsGranted w.granted
          endedWaiting := if s.sm.waiting = [] then s.jnl.day.endedWaiting
            else addSat s.jnl.day.endedWaiting 1 } else s.jnl.day) }).withSm { s.sm with
        windowNo := (s.sm.windowNo + 1) % 65536
        window := some { number := (s.sm.windowNo + 1) % 65536, seats := s.sps.bank.seatCount, granted := 0
                         counted := s.du.day != 0 && (s.du.sched == .isOpen || s.du.sched == .lastCall) } }) := by
  have hr : s.du.sched.running = (s.du.sched == .isOpen || s.du.sched == .lastCall) := by
    unfold SchedState.running; cases s.du.sched <;> rfl
  unfold openWindow endWindow
  congr 1
  cases hw : s.sm.window with
  | none => simp [hr, State.withSm, State.withJnl]
  | some w =>
    by_cases hc : w.counted = true
    · simp [hc, State.withSm, State.withJnl, countDay, List.isEmpty_iff]
      rw [hr]
    · simp [hc, State.withSm, State.withJnl]
      rw [hr]

/-! ### Lanes -/

@[simp] theorem lane_setLane_self (s : State) (n : LaneNo) (l : Lane) : (s.setLane n l).lane n = l := by
  simp [State.setLane, State.lane]

theorem lane_setLane_other (s : State) (n m : LaneNo) (l : Lane) (h : m ≠ n) : (s.setLane n l).lane m = s.lane m := by
  simp [State.setLane, State.lane, lanes_get_set_other _ _ _ _ h]

@[simp] theorem setLane_lanes (s : State) (n : LaneNo) (l : Lane) : (s.setLane n l).lanes = s.lanes.set n l := rfl

theorem lane_eq_of_lanes {s t : State} (h : s.lanes = t.lanes) (n : LaneNo) : s.lane n = t.lane n := by
  simp [State.lane, h]

theorem enterIdle_eq (n : LaneNo) (s : State) :
    enterIdle n s = s.setLane n ((s.lane n).returned s.ms s.sps.bank.beamStuck) := by
  unfold enterIdle modLane
  congr 1
  simp [Lane.returned, Lane.present, Lane.cleared, Lane.beamTimerFrom, Lane.beamTimerAt, Lane.beamBroken]
  cases (s.lane n).held <;> rfl

theorem enterDisabled_eq (n : LaneNo) (s : State) : enterDisabled n s = s.setLane n (s.lane n).outOfService := rfl

theorem enterFault_eq (n : LaneNo) (s : State) :
    enterFault n s = raiseLane .laneFault n (s.setLane n (s.lane n).inFault) := rfl

theorem showDenied_eq (n : LaneNo) (s : State) :
    showDenied n s = s.setLane n ((s.lane n).shown (s.ms + s.sps.bank.denyDisplay * 100)) := rfl

theorem heard_eq (n : LaneNo) (s : State) : heard n s = s.setLane n ((s.lane n).heardAt s.ms) := rfl

/-! ### The store port and the seat meter -/

/-- Serving the store port changes the operation in flight, the lookup queue and the progress of the commit alone. -/
@[simp] theorem served_frame (s : State) :
    s.served.lanes = s.lanes ∧ s.served.ae = s.ae ∧ s.served.iqu = s.iqu ∧ s.served.sm = s.sm ∧ s.served.du = s.du ∧
      s.served.lsu = s.lsu ∧ s.served.jnl = s.jnl ∧ s.served.hlc = s.hlc ∧ s.served.sps = s.sps ∧
      s.served.pins = s.pins ∧ s.served.store = s.store ∧ s.served.ms = s.ms ∧ s.served.drawn = s.drawn ∧
      s.served.pending = s.pending ∧ s.served.psc.postings = s.psc.postings ∧ s.served.psc.credits = s.psc.credits ∧
      s.served.psc.state = s.psc.state ∧ s.served.ru.commit.map (·.slot) = s.ru.commit.map (·.slot) := by
  and_intros <;> unfold State.served <;> (repeat' split) <;> first | rfl | skip
  cases s.ru.commit <;> first | rfl | (simp only [Option.map_some]; split <;> rfl)

/-- A store port that is busy, or a store that is not READY, serves nothing. -/
theorem served_idle {s : State} (h : s.psc.state ≠ .ready ∨ s.psc.op.isSome = true) : s.served = s := by
  unfold State.served
  split
  · simp_all
  · rfl

/-- An evaluation of the schedule state touches halt detection alone. -/
@[simp] theorem meterAt_frame (s : State) (new : SchedState) (now : Time) :
    (s.meterAt new now).window = s.sm.window ∧ (s.meterAt new now).windowNo = s.sm.windowNo ∧
      (s.meterAt new now).waiting = s.sm.waiting ∧ (s.meterAt new now).windowTimer = s.sm.windowTimer ∧
      (s.meterAt new now).lastPulse = s.sm.lastPulse ∧ (s.meterAt new now).halt = s.sm.halt ∧
      (s.meterAt new now).chair = s.sm.chair := by
  and_intros <;> unfold State.meterAt <;> dsimp only <;> (repeat' split) <;> rfl

/-! ### Event classes -/

theorem raiseBy_flags (cls : EventClass) (lanes : LaneSet) (s : State) :
    (raiseBy cls lanes s).hlc.flags = s.hlc.flags.setIfInBounds cls.code true := by
  unfold raiseBy queueEvent
  simp only []
  repeat' split
  all_goals simp [State.setFlag, State.setOwed, sendFrame, State.withQueue]

theorem flag_raised (cls : EventClass) (v : Vector Bool 14) :
    (v.setIfInBounds cls.code true).getD cls.code false = true := by
  cases cls <;> simp [EventClass.code, Vector.getD]

theorem flag_kept (cls other : EventClass) (v : Vector Bool 14) (h : v.getD other.code false = true) :
    (v.setIfInBounds cls.code true).getD other.code false = true := by
  revert h
  simp only [Vector.getD, Vector.toArray_setIfInBounds, Array.getD_eq_getD_getElem?, Array.getElem?_setIfInBounds]
  intro h
  split
  · split <;> simp_all
  · exact h

end Sys2Proof.Machine
end

