-- ==== Sys2Proof/Tests/Slice0.lean ====
section
/-! SUPPORT. Tests: an ill-formed term for each check of WellFormed; the worked examples of spec/; and for every
obligation with hypotheses a state and operands that meet them. -/

namespace Sys2Proof.Tests
-- one theorem at a time: the package as one text elaborates within the memory limit
set_option Elab.async false
open Sys2Proof Sys2Proof.Machine Sys2Proof.Config

/-! ### WellFormed refuses -/

/-- A raw record that is well-formed. -/
def rawZero : RawRecord :=
  { passId := 1, product := 0, status := 0, flags := 0, ridesCount := 0, firstDay := 120, ridesDay := 0, totalRides := 0
    price := 38900, daySet := 0, lastDay := 0, lastSec := 0, lastBank := 0, stampEpoch := 0, stampSeq := 0
    refund := 0 }

/-- A raw product entry that is well-formed: the CONSECUTIVE product of the worked refund (chapter 7). -/
def rawProduct : RawProduct :=
  { kind := 1, span := 5, entitled := 0, zoneMask := 1, rideLimit := 0, refundable := 1, past := 500, fee := 1500
    unit := 50, policy := 0 }

def rawMerge : RawMerge :=
  { passId := 1, dayCount := 1, lastFlag := 0, lastDay := 0, lastSec := 0, lastBank := 0, days := [120] }

theorem test_wf_accepts : (Instr.passPut 255 rawZero).wf = true ∧ (Instr.productPut 0 63 rawProduct).wf = true ∧
    (Instr.passMerge 0 rawMerge).wf = true ∧ (Instr.bankConfig 0 { timerPeriod := some 300 }).wf = true := by decide

theorem test_wf_tag : (Instr.ident 256).wf = false ∧ (Instr.denyClear 256).wf = false ∧
    (Instr.passRead 256 1).wf = false ∧ (Instr.settingsSave 256).wf = false := by decide

theorem test_wf_record :
    ({ rawZero with passId := 4294967296 } : RawRecord).wf = false ∧
    ({ rawZero with product := 256 } : RawRecord).wf = false ∧
    ({ rawZero with status := 256 } : RawRecord).wf = false ∧
    ({ rawZero with flags := 256 } : RawRecord).wf = false ∧
    ({ rawZero with ridesCount := 256 } : RawRecord).wf = false ∧
    ({ rawZero with firstDay := 65536 } : RawRecord).wf = false ∧
    ({ rawZero with ridesDay := 65536 } : RawRecord).wf = false ∧
    ({ rawZero with totalRides := 65536 } : RawRecord).wf = false ∧
    ({ rawZero with price := 4294967296 } : RawRecord).wf = false ∧
    ({ rawZero with lastDay := 65536 } : RawRecord).wf = false ∧
    ({ rawZero with lastSec := 4294967296 } : RawRecord).wf = false ∧
    ({ rawZero with lastBank := 256 } : RawRecord).wf = false ∧
    ({ rawZero with stampEpoch := 65536 } : RawRecord).wf = false ∧
    ({ rawZero with stampSeq := 4294967296 } : RawRecord).wf = false ∧
    ({ rawZero with refund := 4294967296 } : RawRecord).wf = false := by decide

theorem test_wf_product :
    ({ rawProduct with kind := 256 } : RawProduct).wf = false ∧
    ({ rawProduct with span := 65536 } : RawProduct).wf = false ∧
    ({ rawProduct with entitled := 256 } : RawProduct).wf = false ∧
    ({ rawProduct with rideLimit := 256 } : RawProduct).wf = false ∧
    ({ rawProduct with refundable := 256 } : RawProduct).wf = false ∧
    ({ rawProduct with past := 65536 } : RawProduct).wf = false ∧
    ({ rawProduct with fee := 4294967296 } : RawProduct).wf = false ∧
    ({ rawProduct with unit := 256 } : RawProduct).wf = false ∧
    ({ rawProduct with policy := 256 } : RawProduct).wf = false := by decide

theorem test_wf_merge :
    ({ rawMerge with passId := 4294967296 } : RawMerge).wf = false ∧
    ({ rawMerge with dayCount := 256 } : RawMerge).wf = false ∧
    ({ rawMerge with lastFlag := 256 } : RawMerge).wf = false ∧
    ({ rawMerge with lastDay := 65536 } : RawMerge).wf = false ∧
    ({ rawMerge with lastSec := 4294967296 } : RawMerge).wf = false ∧
    ({ rawMerge with lastBank := 256 } : RawMerge).wf = false ∧
    ({ rawMerge with days := [65536] } : RawMerge).wf = false ∧
    ({ rawMerge with days := List.replicate 17 1 } : RawMerge).wf = false := by decide

theorem test_wf_bank :
    ({ bankId := some 256 } : BankPatch).wf = false ∧ ({ zone := some 256 } : BankPatch).wf = false ∧
    ({ seatCount := some 256 } : BankPatch).wf = false ∧ ({ source := some 256 } : BankPatch).wf = false ∧
    ({ timerPeriod := some 65536 } : BankPatch).wf = false ∧ ({ haltDetect := some 256 } : BankPatch).wf = false ∧
    ({ passThrough := some 256 } : BankPatch).wf = false ∧ ({ passingLimit := some 256 } : BankPatch).wf = false ∧
    ({ denyDisplay := some 256 } : BankPatch).wf = false ∧ ({ waitLimit := some 256 } : BankPatch).wf = false ∧
    ({ lockout := some 65536 } : BankPatch).wf = false ∧ ({ beamStuck := some 256 } : BankPatch).wf = false ∧
    ({ filter := some 256 } : BankPatch).wf = false ∧ ({ inquiryTimeout := some 65536 } : BankPatch).wf = false ∧
    ({ threshold := some 65536 } : BankPatch).wf = false ∧ ({ lossStops := some 256 } : BankPatch).wf = false := by decide

theorem test_wf_fields :
    (Instr.noticeLevels 0 256 []).wf = false ∧ (Instr.noticeLevels 0 0 (List.replicate 15 (0, 0))).wf = false ∧
    (Instr.noticeLevels 0 0 [(256, 0)]).wf = false ∧ (Instr.noticeLevels 0 0 [(0, 256)]).wf = false ∧
    (Instr.productPut 0 256 rawProduct).wf = false ∧ (Instr.productGet 0 256).wf = false ∧
    (Instr.laneMode 0 256 0).wf = false ∧ (Instr.laneMode 0 1 256).wf = false ∧
    (Instr.timeSet 0 65536 0).wf = false ∧ (Instr.timeSet 0 1 4294967296).wf = false ∧
    (Instr.scheduleSet 0 4294967296 0 0).wf = false ∧ (Instr.scheduleSet 0 0 4294967296 0).wf = false ∧
    (Instr.scheduleSet 0 0 0 65536).wf = false ∧ (Instr.holdBegin 0 256).wf = false ∧
    (Instr.closureNote 0 65536 0).wf = false ∧ (Instr.closureNote 0 1 65536).wf = false ∧
    (Instr.closureGet 0 65536 0).wf = false ∧ (Instr.closureGet 0 1 256).wf = false ∧
    (Instr.linkState 0 256).wf = false ∧ (Instr.inquiryAnswer 0 256 0 none).wf = false ∧
    (Instr.inquiryAnswer 0 0 256 none).wf = false ∧
    (Instr.inquiryAnswer 0 0 0 (some { rawZero with status := 256 })).wf = false ∧
    (Instr.refundQuote 0 4294967296).wf = false ∧ (Instr.refundCommit 0 4294967296 0).wf = false ∧
    (Instr.refundCommit 0 1 4294967296).wf = false := by decide

theorem test_wf_fields_more :
    (Instr.passStatus 0 4294967296 0 0 0).wf = false ∧ (Instr.passStatus 0 1 256 0 0).wf = false ∧
    (Instr.passStatus 0 1 0 256 0).wf = false ∧ (Instr.passStatus 0 1 0 0 4294967296).wf = false ∧
    (Instr.passDrop 0 4294967296).wf = false ∧ (Instr.denyAdd 0 4294967296).wf = false ∧
    (Instr.journalRead 0 256).wf = false ∧ (Instr.journalRelease 0 65536 0).wf = false ∧
    (Instr.journalRelease 0 1 4294967296).wf = false ∧ (Instr.countsGet 0 256 0).wf = false ∧
    (Instr.countsGet 0 0 256).wf = false ∧ (Instr.dispatchRefusal 256 0 []).wf = false ∧
    (Instr.dispatchRefusal 0 256 []).wf = false ∧ (Instr.dispatchRefusal 0 0 (List.replicate 241 0)).wf = false ∧
    (Instr.fieldEnter .lu1 (256 ^ 8)).wf = false ∧ (Instr.image .lu1 (List.replicate 31 0)).wf = false := by
  decide +kernel

/-- The bytes of a frame number at most 247: six of the frame, 240 of the body and the start byte. -/
theorem test_wf_frame_bytes :
    let long : List Byte := List.replicate 248 0
    (Instr.frameBadCheck long).wf = false ∧ (Instr.frameIdleGap long).wf = false ∧
    (Instr.bodyLengthOver long).wf = false ∧ (Instr.stopBitMissing long).wf = false ∧
    (Instr.feFrameDiscarded .lu1 long).wf = false ∧ (Instr.frameBadCheck (List.replicate 247 0)).wf = true := by
  decide +kernel

/-! ### Worked examples of spec/ -/

/-- R31: the check over the nine digits is 10,673. -/
theorem test_crc_of_digits : crc ([49, 50, 51, 52, 53, 54, 55, 56, 57] : List Byte) = 10673 := by decide +kernel

/-- R54: the table of buckets. -/
theorem test_buckets : (bucketOf 1).val = 1 ∧ (bucketOf 8193).val = 0 ∧ (bucketOf 500123).val = 422 ∧
    (bucketOf 4294967295).val = 0 := by decide +kernel

/-- The store READY and free, the clock at day 121 and 40,000 s, the schedule OPEN. -/
def ready : State :=
  (State.reset.withPsc { State.reset.psc with state := .ready, op := none }).withDu
    { State.reset.du with day := 121, sec := 40000, sched := .isOpen }

def atClock (day sec : Nat) : State := ready.withDu { ready.du with day := day, sec := sec }

/-- An ACTIVE record without use. -/
def record (pass : Nat) : PassRecord :=
  { passId := pass, product := 0, status := .active, firstDay := 120, price := 38900, daySet := some 0, ridesDay := 0
    ridesCount := 0, last := none, totalRides := 0, stamp := none, refund := none }

def passedAt (day sec : Nat) : PassRecord := { record 1 with last := some { time := ⟨day, sec⟩, bank := 1 } }

/-- R47: the table of passback examples, with the default lockout of 180 s and bank ID 1. -/
theorem test_passback : passbackDenies (atClock 121 32470) (passedAt 121 32406) = true ∧
    passbackDenies (atClock 121 32586) (passedAt 121 32406) = false ∧
    passbackDenies (atClock 121 60) (passedAt 120 86350) = true ∧
    passbackDenies (atClock 121 40000) (passedAt 122 100) = true := by decide

/-- A product entry that the worked refunds use. -/
def worked (kind : ProductKind) (span entitled past fee unit : Nat) : ProductEntry :=
  { kind := kind, span := span, entitled := entitled, zoneMask := 1, rideLimit := 0, refundable := true, past := past
    fee := fee, unit := unit, policy := .deny }

def closure (day loss : Nat) : ClosureEntry :=
  { day := day, scheduled := 27000, lost := 0, local_ := loss, central := none, final := true, unsaved := false }

def onDay (day : Nat) (log : List ClosureEntry) : State := ready.withDu { ready.du with day := day, log := log }

/-- The worked case of a five-day pass after a windy day (chapter 7). -/
theorem test_refund_consecutive :
    let f := computeRefund (onDay 123 [closure 120 0, closure 121 620])
      { record 1 with daySet := some 3 } (worked .consecutive 5 0 500 1500 50)
    f.weight = 3120 ∧ f.gross = 24273 ∧ f.amount = 22750 ∧ f.used = 2 ∧ f.unusedPast = 1 ∧ f.unusedFuture = 2 := by
  decide +kernel

/-- The worked case of a flexible pass after its window, and inside it (chapter 7). -/
theorem test_refund_flex :
    let f (day : Nat) := computeRefund (onDay day [closure 201 0, closure 204 750])
      { record 1 with firstDay := 200, price := 52000, daySet := some 18 } (worked .flex 10 4 250 1000 100)
    (f 212).weight = 1250 ∧ (f 212).gross = 16250 ∧ (f 212).amount = 15200 ∧ (f 212).used = 2 ∧
      (f 212).unusedPast = 2 ∧ (f 205).weight = 2750 ∧ (f 205).gross = 35750 ∧ (f 205).amount = 34700 := by
  decide +kernel

/-- 12.5: a record written and read back; its layout puts the first valid day at offset 8 and the price at 14. -/
theorem test_record_layout : ((record 500123).bytes.take 18).drop 4 = [0, 0, 1, 0, 120, 0, 0, 0, 0, 0, 244, 151, 0, 0] ∧
    (record 500123).bytes.length = 48 ∧ passRecordOf (record 500123).bytes = record 500123 := by decide +kernel

/-- 12.6: the lengths of the records, the longest of 68 bytes. -/
theorem test_record_lengths :
    let r (b : JBody) : JRecord := { stamp := ⟨1, 1⟩, time := ⟨1, 0⟩, body := b }
    (r (.passage false .lu1 1 0 1 false false 0)).bytes.length = 24 ∧ (r (.refund 1 0 0 1)).bytes.length = 26 ∧
    (r (.intrusion .lu6)).bytes.length = 15 ∧ (r (.stop ⟨1, 0⟩ ⟨1, 1⟩ .hold)).bytes.length = 27 ∧
    (r (.supply .backupEntered)).bytes.length = 16 ∧ (r (.postingLost (.putInsert (record 1)))).bytes.length = 68 := by
  decide +kernel

/-- 12.1, R210, R211: the frame of the RESTARTED notice of the reset state: start byte, body length 5, kind 202, tag 0, cause COLD 1,
epoch 1, flags 12. -/
theorem test_restarted_frame :
    (OutFrame.restarted .cold 1 coldFlags).bytes.take 10 = [195, 5, 0, 202, 0, 1, 1, 0, 12, 0] := by decide +kernel

/-- 12.2: bodies of requests as dispatch reads them, each written out from the layouts. -/
theorem test_decode_requests :
    decodeRequest 1 9 [] = .request (.ident 9) ∧
    decodeRequest 11 0 [121, 0, 16, 39, 0, 0] = .request (.timeSet 0 121 10000) ∧
    decodeRequest 10 3 [2, 1] = .request (.laneMode 3 2 1) ∧
    decodeRequest 32 0 [1, 0, 5, 0, 0, 0] = .request (.journalRelease 0 1 5) ∧
    decodeRequest 6 0 [1, 16, 7, 44, 1] = .badLength ∧
    decodeRequest 6 0 [17, 0, 7, 44, 1] = .request (.bankConfig 0 { bankId := some 7, timerPeriod := some 300 }) ∧
    decodeRequest 4 0 [4, 13, 2] = .request (.noticeLevels 0 4 [(13, 2)]) ∧
    decodeRequest 35 0 [] = .unknownKind ∧ decodeRequest 1 0 [0] = .badLength := by decide +kernel

/-- The opcode table gives no bits. -/
theorem test_no_word : decodeTableWord 16 7 = none ∧ State.reset.withFetchWord 16 7 = State.reset := ⟨rfl, rfl⟩

/-! ### Single commands -/

/-- The state after a command. -/
def after (i : Instr) (s : State) : State :=
  match exec i s with
  | .next t => t
  | .fault _ => s
  | .refused _ => s

def withLane (l : Lane) : State := ready.setLane .lu1 l

def inState (st : LaneState) : Lane := { Lane.started with state := st }

/-- R8: a medium entering the field in IDLE is taken. -/
theorem test_field_enter : ((after (.fieldEnter .lu1 7) ready).lane .lu1).state = .reading ∧
    ((after (.fieldEnter .lu1 7) ready).lane .lu1).presentation = 1 := by decide

/-- R9: the third failed read denies the presentation. -/
theorem test_third_read_fails :
    ((after (.readFail .lu1) (withLane { inState .reading with readFailures := 2 })).lane .lu1).state = .denied := by
  decide

/-- A lane in PASSING with 1,000 ms gone, its first exit break counted and the beam clear since 300 ms. -/
def passing : Lane :=
  { inState .passing with
    grant := some { window := 1, day := 121, postingCredit := true }, admission := some .storeBacked
    pass := some (500123, 3), image := some [], medium := some 7
    obs := some { rotationSeen := false, breaks := 1, first := some 200, last := some 200, clearAt := some 300
                  entered := 0 } }

def inPassage : State :=
  ((withLane passing).withJnl { ready.jnl with credits := 1 }).withPsc { ready.psc with credits := 1 }

/-- R20, with the default filter of 16 ms: a break accepted 150 ms after the clear is a new body, and one 149 ms after it is
not. -/
theorem test_body_gap :
    (((after (.exitBeamBreak .lu1 434 16) inPassage).lane .lu1).obs.map (·.breaks)) = some 2 ∧
    (((after (.exitBeamBreak .lu1 433 16) inPassage).lane .lu1).obs.map (·.breaks)) = some 1 := by decide

/-- R3, R4: under 16 ms a level held for 15 ms is not accepted; a change seen 6 ms before the setting applied is measured
again from there; with NONE a change is accepted when it is seen. -/
theorem test_filter :
    let since (ms : Nat) (f : SensorFilter) : State :=
      ready.withSps { ready.sps with bank := { ready.sps.bank with filter := f }, filterSince := ms }
    ready.acceptAt 100 15 = none ∧ ready.acceptAt 100 16 = some 116 ∧ (since 106 .ms64).acceptAt 100 69 = none ∧
    (since 106 .ms64).acceptAt 100 70 = some 170 ∧ (since 0 .none).acceptAt 100 0 = some 100 := by decide

/-- R3: a pulse that comes 15 ms after the fall of the last is no new rise, and one 16 ms after it is. -/
theorem test_rise :
    let x : PulseInput := { high := true, fall := 100, low := 116 }
    ready.pulse x 115 40 = (true, none) ∧ ready.pulse x 116 40 = (true, some 132) ∧
    ready.pulse { x with high := false } 116 15 = (false, none) := by decide

/-- R4, R97, R115: a filter change at 500 ms from 16 ms to 64 ms. A CHAIR fall accepted at 116 ms is not measured again, so a rise
seen at 495 ms is accepted 64 ms after the reply; a fall at 490 ms is measured again, and a rise at 563 ms is none. -/
theorem test_filter_change :
    let s := ready.withMs 500
    let chair (fall low : Nat) : State :=
      after (.bankConfig 1 { filter := some 3 }) (s.withSm { s.sm with chair := { high := true, fall := fall, low := low } })
    ((chair 100 116).pulse (chair 100 116).sm.chair 495 80).2 = some 564 ∧ (chair 100 116).sm.chair.low = 116 ∧
    ((chair 490 506).pulse (chair 490 506).sm.chair 563 80).2 = none ∧ (chair 490 506).sm.chair.low = 564 := by decide +kernel

/-- R4: levels first seen at 4,990 ms, 10 ms before a restart with cause MESSAGE, and held past it: a broken entry beam, a turning
arm and CHAIR are no events, and the beam-stuck timer runs from the restart; a beam broken after it is accepted 16 ms later, and one
that had returned is not shown. -/
theorem test_first_sample_after_a_message_restart :
    let x : Slot := { request := .restart 3, progress := .replied }
    let s := ((ready.withMs 5000).withHlc { ready.hlc with queue := [.reply .s1 5 3 (.status .ok)] }).setSlot .s1 (some x)
    let t := after .frameSent s
    let broken := after (.entryBeamBreak .lu1 4990 40) t
    let turned := after (.rotationPulse .lu2 4990 40) t
    let chaired := after (.chairPulse 4990 40) t
    t.sps.startedAt = 5000 ∧ t.sps.cause = .message ∧ (broken.lane .lu1).entryBroken = true ∧
    (broken.lane .lu1).beamTimer = some 25000 ∧ (turned.lane .lu2).rotation.high = true ∧
    turned.jnl.day.intrusions = 0 ∧ chaired.sm.chair.high = true ∧ chaired.sm.window = none ∧
    t.acceptAt 5001 16 = some 5017 ∧ after (.entryBeamBreak .lu1 4990 10) t = t := by decide +kernel

/-- R3, R22: with the passing limit at 12,000 ms a rotation accepted at 12,000 ms completes the passage; one accepted at
12,001 ms finds it abandoned and is an intrusion. -/
theorem test_passing_limit :
    let s := inPassage.setLane .lu1 { passing with stateTimer := some 12000 }
    let late := after (.rotationPulse .lu1 11985 16) s
    (after (.rotationPulse .lu1 11984 16) s).psc.postings.length = 1 ∧ late.psc.postings = [] ∧
    late.jnl.day.intrusions = 1 ∧ (late.jnl.lanes.get .lu1).abandoned = 1 ∧ (late.lane .lu1).state = .idle := by
  decide +kernel

/-- R19, R21: the rotation completes the passage; its USAGE posting carries the record's stamp. -/
theorem test_passage : ((after (.rotationPulse .lu1 984 16) inPassage).lane .lu1).state = .idle ∧
    (after (.rotationPulse .lu1 984 16) inPassage).jnl.records.length = 2 ∧
    (after (.rotationPulse .lu1 984 16) inPassage).psc.postings = [.usage 500123 121 ⟨121, 40000⟩ 1 ⟨1, 2⟩] := by
  decide +kernel

/-- R23: a rotation in IDLE is an intrusion. -/
theorem test_intrusion : (after (.rotationPulse .lu2 10 16) ready).jnl.day.intrusions = 1 ∧
    ((after (.rotationPulse .lu2 10 16) ready).lane .lu2).state = .idle ∧
    (after (.rotationPulse .lu2 10 15) ready).jnl.day.intrusions = 0 := by decide +kernel

/-- R17: a grant that expires at 8,000 ms ends before a break accepted at 8,001 ms; a break accepted at 8,000 ms starts the
passage. -/
theorem test_grant_runs_out :
    let l : Lane := { inState .granted with
      grant := some { window := 1, day := 121, postingCredit := false }, stateTimer := some 8000 }
    ((after (.entryBeamBreak .lu1 7985 16) (withLane l)).lane .lu1).state = .denied ∧
    ((after (.entryBeamBreak .lu1 7984 16) (withLane l)).lane .lu1).state = .passing := by decide +kernel

/-- Eight closed spans of 5 s, 10 s apart, the first from 39,900 s on. -/
def spans8 : List Span :=
  (List.range 8).map (fun k => { start := 39900 + 10 * k, finish := 39905 + 10 * k, isOpen := false })

/-- R126, R127: the room for the first backdated range merges the two oldest spans, whose seconds between are then covered;
every later range is still added. -/
theorem test_backdate_merges :
    let t := backdate ⟨121, 39905⟩ (ready.withDu { ready.du with spans := spans8 })
    SpansOk t ∧ t.du.lost = 55 := by decide +kernel

/-- R131, R137: an entry that CLOSURE_NOTE made while the store mounted keeps its L_central beside the figures of the
store's entry of its day. -/
theorem test_rebuild_keeps_central :
    let s := (onDay 123 [{ ClosureEntry.bare 121 with central := some 700 }]).withStore
      (ready.store.writeBytes (closureAddress (121 % 96)) (closure 121 620).bytes)
    (rebuildLog s).du.log = [{ closure 121 620 with central := some 700 }] := by decide +kernel

/-- The frame of IDENT under tag 9. -/
def identFrame : List Byte := frameBytes 1 9 []

/-- R187, R188: the parts of a frame in their order; the start byte alone enters FRAME, a bad check is told from a good one,
and a length of 241 is over. -/
theorem test_receiver : identFrame.take 5 = [195, 0, 0, 1, 9] ∧ identFrame.length = 7 ∧
    receive .hunt identFrame = (.hunt, some (.complete 1 9 [] true)) ∧
    receive .hunt (identFrame.take 3) = (.frame [0, 0], none) ∧
    (receive .hunt [195, 0, 0, 1, 9, 0, 0]).2 = some (.complete 1 9 [] false) ∧
    receive .hunt [195, 241, 0] = (.skip, some .tooLong) ∧ receive .hunt [1, 195] = (.hunt, some .stray) := by
  decide +kernel

/-- R188: a byte without its stop bit in HUNT counts nothing, and one in a frame counts and skips. -/
theorem test_stop_bit : (after (.stopBitMissing []) ready).hlc.errors = 0 ∧
    (after (.stopBitMissing [195]) ready).hlc.errors = 1 ∧ (after (.stopBitMissing [195]) ready).hlc.receiver = .skip := by
  decide +kernel

/-- R5, R210: a READ_FAIL with a body of one byte is discarded with a good check; one with no body is no discarded frame. -/
theorem test_discarded_frame : discardedFrame .lu1 (frameBytes 3 0 [0]) = some true ∧
    discardedFrame .lu1 (frameBytes 3 0 []) = none ∧ discardedFrame .lu1 (frameBytes 6 0 []) = some true ∧
    discardedFrame .lu1 [195, 0, 0, 3, 0, 0, 0] = some false := by decide +kernel

/-- R119: the clock advances; R122: the close ends the schedule. -/
theorem test_clock : (after .clockAdvance (atClock 121 40000)).du.sec = 40001 ∧
    (after .clockAdvance (atClock 121 57599)).du.sched = .closed := by decide +kernel

/-- R120: a time before the clock is refused. -/
theorem test_time_backward :
    (after (.timeSet 5 120 0) ready).hlc.queue.getLast? =
      some (.reply .s1 11 5 (.clock .timeBackward ⟨121, 40000⟩)) := by decide +kernel

/-- R98, R100: a chair pulse opens window 1 with four seats. -/
theorem test_chair : (after (.chairPulse 5 16) ready).sm.window =
    some { number := 1, seats := 4, granted := 0, counted := true } := by decide +kernel

/-- R169: the deny list stays ascending. -/
theorem test_deny_add : (after (.denyAdd 0 20) (ready.withLsu { deny := [10, 30] })).lsu.deny = [10, 20, 30] ∧
    (after (.denyRemove 0 10) (ready.withLsu { deny := [10, 30] })).lsu.deny = [30] := by decide +kernel

/-- R209: a clamped setting takes the nearer end, and a refused one refuses the request. -/
theorem test_bank_config : (after (.bankConfig 0 { timerPeriod := some 10 }) ready).sps.bank.timerPeriod = 20 ∧
    (after (.bankConfig 0 { timerPeriod := some 100, seatCount := some 9 }) ready).sps.bank.timerPeriod = 80 := by
  decide +kernel

/-- R77: an empty store device has no valid header, and a formatted one mounts. -/
theorem test_mount : (after .mountHeaderRead State.reset).psc.state = .faulted ∧
    (after .mountHeaderRead (State.reset.withStore (State.reset.store.writeBytes 0 (headerBytes 9)))).psc.op =
      some { op := .mountClosure 9, issued := 0 } := by decide +kernel

/-- R203, R205: a supply loss puts every lane in OFF, and the return starts them again. -/
theorem test_supply : ((after .supplyLoss ready).lane .lu3).state = .off ∧
    ((after .powerReturn (after .supplyLoss ready)).lane .lu3).state = .idle ∧
    (after .powerReturn (after .supplyLoss ready)).sps.cause = .powerReturn := by decide +kernel

/-- R196: FLAGS_TAKE clears the flags that the cold start set. -/
theorem test_flags_take : State.reset.hlc.flags.getD EventClass.clockUnset.code false = true ∧
    (after (.flagsTake 1) State.reset).hlc.flags = Vector.replicate 14 false := by decide +kernel

/-- R33: SEASON with refundable yes is refused. -/
theorem test_product_put : ((after (.productPut 0 5 rawProduct) ready).sps.products.getD 5 ProductEntry.unused).span = 5 ∧
    (after (.productPut 0 5 { rawProduct with kind := 3 }) ready).sps.products = ready.sps.products := by
  decide +kernel

/-! ### Witnesses: states and operands that meet the hypotheses of the obligations, a line for each clause -/

def withOp (op : StoreOp) : State := ready.withPsc { ready.psc with op := some { op := op, issued := 0 } }

/-- The store READY with an operation in flight, so that a lookup waits. -/
def storeBusy : State := withOp .postingRead

def granted : Lane :=
  { inState .granted with grant := some { window := 1, day := 121, postingCredit := false }, stateTimer := some 8000 }

def window : Window := { number := 1, seats := 4, granted := 1, counted := true }

def wait (n : LaneNo) : SeatWait :=
  { lane := n, presentation := 0, admission := .storeBacked, pass := 5, timer := some 100 }

theorem witness_OutputsFollowTheLaneState : (inState .off).state = .off ∧ (inState .idle).state = .idle ∧
    (inState .reading).state = .reading ∧ (inState .waiting).state = .waiting ∧ granted.state = .granted ∧
    passing.state = .passing ∧ passing.obs.isSome = true ∧ (inState .fault).state = .fault := by decide

theorem witness_FieldPresence : liveLane ready .lu1 = true ∧
    (∀ st ∈ [LaneState.reading, .checking, .inquiring, .waiting, .granted, .passing, .denied, .idle, .fault, .disabled],
      liveLane (withLane (inState st)) .lu1 = true ∧ ((withLane (inState st)).lane .lu1).state = st) := by decide

theorem witness_FailedReadsInReading :
    failedReadOf (.feFrameDiscarded .lu1 [195, 0, 0, 3, 0, 0, 0]) = some (.lu1, false) ∧
    failedReadOf (.feFrameDiscarded .lu1 (frameBytes 3 0 [0])) = some (.lu1, true) ∧
    failedReadOf (.readFail .lu1) = some (.lu1, true) ∧ failedReadOf (.feFrameGap .lu1) = some (.lu1, false) ∧
    liveLane (withLane { inState .reading with readFailures := 1 }) .lu1 = true ∧
    liveLane (withLane { inState .reading with readFailures := 2 }) .lu1 = true ∧
    ((withLane (inState .reading)).lane .lu1).state = .reading ∧ (ready.lane .lu1).state ≠ .reading := by
  decide +kernel

/-- An image of pass 1 and product 0 without carrier data; its check is that of R31. -/
def image : List Byte :=
  let fields : List Byte := [1, 1, 0, 0, 0, 0, 120, 0, 120, 0] ++ List.replicate 20 0
  fields ++ leBytes 2 (crc fields)

/-- The store busy and product 0 a CONSECUTIVE entry of five days. -/
def selling : State :=
  storeBusy.withSps { storeBusy.sps with products := storeBusy.sps.products.set 0 (worked .consecutive 5 0 500 1500 50) }

theorem witness_ImageIsCheckedInReading :
    liveLane (selling.setLane .lu1 (inState .reading)) .lu1 = true ∧
    ((selling.setLane .lu1 (inState .reading)).lane .lu1).state = .reading ∧
    LookupsQueue (selling.setLane .lu1 (inState .reading)) ∧
    imageDenies (selling.setLane .lu1 (inState .reading)) image = none ∧
    imageDenies (selling.setLane .lu1 (inState .reading)) [] = some .badImage := by decide +kernel

/-- A store in a state, product 0 on sale under a policy, lane 1 in READING, and a window. -/
def offering (st : StoreState) (policy : OfflinePolicy) (w : Option Window) : State :=
  let s := (selling.withPsc { ready.psc with state := st }).setLane .lu1 (inState .reading)
  let e : ProductEntry := { worked .consecutive 5 0 500 1500 50 with policy := policy }
  (s.withSps { s.sps with products := s.sps.products.set 0 e }).withSm { s.sm with window := w }

theorem witness_ImageIsCheckedInReading_store :
    (let s := offering .ready .deny none
     liveLane s .lu1 = true ∧ (s.lane .lu1).state = .reading ∧ LookupsQueue s ∧ s.psc.op = none ∧
       imageDenies s image = none ∧ (after (.image .lu1 image) s).psc.op.isSome = true) ∧
    (let s := offering .faulted .deny none
     LookupsEnd s ∧ imageDenies s image = none ∧ policyDenies s image .storeError = some .storeFault) ∧
    (let s := offering .formatting .image none
     LookupsEnd s ∧ imageDenies s image = none ∧ policyDenies s image .storeError = none ∧ windowFree s = false) ∧
    (let s := offering .faulted .image (some { number := 1, seats := 4, granted := 3, counted := true })
     policyDenies s image .storeError = none ∧ s.sm.waiting = [] ∧ journalGrants s = true ∧
       s.iqu.provisional.length < 64 ∧ ((after (.image .lu1 image) s).lane .lu1).state = .granted) := by decide +kernel

theorem witness_ImageIsCheckedInReading_elsewhere : liveLane ready .lu1 = true ∧ (ready.lane .lu1).state ≠ .reading ∧
    ((after (.image .lu1 image) ready).lane .lu1).silenceTimer = some (ready.ms + 3000) := by decide

/-- R92, R44: an image first day of 0 is before every day, so its window of five days ends on day 4; a record with that day is not yet
valid on every day. -/
theorem test_first_day_0 :
    let blank := image.set 6 0
    let s := offering .ready .image none
    imageFirstDay blank = 0 ∧ policyDenies s blank .miss = some .expired ∧
    policyDenies (s.withDu { s.du with day := 5 }) blank .miss = some .expired ∧
    policyDenies (s.withDu { s.du with day := 4 }) blank .miss = none ∧
    recordDenies (s.withDu { s.du with day := 4 }) { record 1 with firstDay := 0, product := 0 } = some .notYetValid := by
  decide +kernel

def broken (l : Lane) (entry exit : Bool) : State := withLane { l with entryBroken := entry, exitBroken := exit }

theorem witness_BeamChanges_filter : max 1 ready.sps.filterSince = 1 ∧ ready.sps.startedAt < 1 ∧ 1 + 15 < 1 + 16 ∧
    liveLane ready .lu1 = true ∧ ready.acceptAt 1 15 = none ∧ ready.acceptAt 1 16 = some 17 ∧
    0 ≤ ready.sps.startedAt ∧ ready.sps.startedAt < 0 + 1 ∧ 0 + 0 ≤ ready.sps.startedAt ∧
    ready.acceptAt 0 16 = none := by decide

theorem witness_BeamChanges_entry : ready.acceptAt 7984 16 = some 8000 ∧ ready.acceptAt 7985 16 = some 8001 ∧
    ((broken granted false true).lane .lu1).stateTimer = some 8000 ∧
    (broken granted false true).acceptAt 7985 16 = some 8001 ∧ liveLane (broken granted false true) .lu1 = true ∧
    ((broken granted false true).lane .lu1).entryBroken = false ∧
    ((broken granted false true).lane .lu1).state = .granted ∧
    ((broken (inState .idle) false false).lane .lu1).beamTimer = none ∧
    ((broken (inState .reading) false false).lane .lu1).state ≠ .idle ∧
    ((broken (inState .idle) true true).lane .lu1).exitBroken = true ∧
    ((broken (inState .disabled) true false).lane .lu1).state = .disabled ∧
    ((broken { inState .fault with readerSilent := true } true false).lane .lu1).readerSilent = true ∧
    ((broken { inState .fault with beamStuck := true } true false).lane .lu1).readerSilent = false ∧
    ((broken granted false true).lane .lu1).inTime 8000 ∧ ¬ ((broken granted false true).lane .lu1).inTime 8001 ∧
    ((broken (inState .idle) true false).lane .lu1).inTime 8001 := by decide

theorem witness_BeamChanges_exit : liveLane inPassage .lu1 = true ∧ (inPassage.lane .lu1).exitBroken = false ∧
    (inPassage.lane .lu1).state = .passing ∧ (inPassage.lane .lu1).obs.map (·.clearAt) = some (some 300) ∧
    (inPassage.lane .lu1).obs.map (·.breaks) = some 1 ∧ 300 + 150 ≤ max inPassage.ms 450 ∧
    max inPassage.ms 449 < 300 + 150 ∧ inPassage.acceptAt 434 16 = some 450 ∧ inPassage.acceptAt 433 16 = some 449 ∧
    ((withLane { passing with obs := passing.obs.map (fun o => { o with breaks := 0 }) }).lane .lu1).obs.map (·.breaks) =
      some 0 ∧ ((broken passing false true).lane .lu1).exitBroken = true ∧
    ((broken passing false true).lane .lu1).obs.map (·.rotationSeen) = some false ∧
    ((broken (inState .idle) false true).lane .lu1).exitBroken = true ∧
    ((broken (inState .idle) false true).lane .lu1).entryBroken = false ∧
    (inPassage.lane .lu1).inTime 450 ∧ ((broken (inState .disabled) false true).lane .lu1).state = .disabled ∧
    ((broken { inState .fault with readerSilent := true } false true).lane .lu1).readerSilent = true ∧
    ((broken { inState .idle with beamTimer := some 20000 } false false).lane .lu1).beamTimer ≠ none := by decide

theorem witness_BeamChanges_lapsed :
    let s := inPassage.setLane .lu1 { passing with stateTimer := some 12000, exitBroken := true, entryBroken := true }
    liveLane s .lu1 = true ∧ s.acceptAt 11985 16 = some 12001 ∧ (s.lane .lu1).entryBroken = true ∧
    (s.lane .lu1).exitBroken = true ∧ (s.pulse (s.lane .lu1).rotation 11985 16).2 = some 12001 ∧
    (s.lane .lu1).stateTimer = some 12000 ∧ (broken granted false false).acceptAt 7985 16 = some 8001 ∧
    ((broken granted false false).lane .lu1).stateTimer = some 8000 := by decide

theorem witness_PassageCompletes : liveLane inPassage .lu1 = true ∧ (inPassage.lane .lu1).state = .passing ∧
    (inPassage.lane .lu1).grant.isSome = true ∧ (inPassage.lane .lu1).admission = some .storeBacked ∧
    (inPassage.lane .lu1).obs.map (·.rotationSeen) = some false ∧ (inPassage.lane .lu1).exitBroken = false ∧
    (inPassage.pulse (inPassage.lane .lu1).rotation 984 16).2 = some 1000 ∧ (inPassage.lane .lu1).inTime 1000 ∧
    ({ passing with stateTimer := some 1000 } : Lane).inTime 1000 ∧
    (let s := withLane { passing with exitBroken := true, obs := passing.obs.map (fun o => { o with rotationSeen := true }) }
     liveLane s .lu1 = true ∧ s.acceptAt 984 16 = some 1000 ∧ (s.lane .lu1).exitBroken = true ∧
       (s.lane .lu1).obs.map (·.rotationSeen) = some true) := by decide

theorem witness_PassageCompletes_turned :
    let s := inPassage.setLane .lu1 { passing with exitBroken := true }
    liveLane s .lu1 = true ∧ (s.lane .lu1).obs.map (·.rotationSeen) = some false ∧
    (s.pulse (s.lane .lu1).rotation 984 16).2 = some 1000 ∧ (s.lane .lu1).inTime 1000 ∧
    ((after (.rotationPulse .lu1 984 16) s).lane .lu1).state = .passing ∧
    (after (.exitBeamClear .lu1 1084 16) (after (.rotationPulse .lu1 984 16) s)).jnl.day.passages = 1 := by decide +kernel

theorem witness_IntrusionsAreCounted : liveLane ready .lu2 = true ∧ (ready.lane .lu2).rotation.high = false ∧
    (ready.pulse (ready.lane .lu2).rotation 10 16).2 = some 26 ∧ (ready.lane .lu2).inTime 26 ∧
    (ready.pulse (ready.lane .lu2).rotation 10 15).2 = none ∧
    (let l := { inState .idle with rotation := { high := true, fall := 100, low := 116 } }
     (ready.pulse l.rotation 115 40).2 = none ∧ (ready.pulse l.rotation 116 40).2 = some 132) ∧ (ready.lane .lu2).state ≠ .passing ∧
    recordFree ready = true ∧ recordFree (ready.withJnl { ready.jnl with credits := 1023 }) = false ∧
    ((withLane (inState .off)).lane .lu1).state = .off ∧ 0 ≤ ready.sps.startedAt ∧ ready.sps.startedAt < 0 + 16 ∧
    ((after (.rotationPulse .lu2 0 16) ready).lane .lu2).rotation.high = true ∧
    (after (.rotationPulse .lu2 0 16) ready).jnl.day.intrusions = 0 := by decide +kernel

theorem witness_FrontEndSupervision : liveLane ready .lu1 = true ∧ (ready.lane .lu1).silenceTimer = some 3000 ∧
    (ready.lane .lu1).state = .idle ∧ ((withLane (inState .fault)).lane .lu1).state = .fault ∧
    ((withLane (inState .fault)).lane .lu1).beamStuck = false ∧ ((withLane granted).lane .lu1).state = .granted ∧
    ((withLane granted).lane .lu1).silenceTimer = some 3000 ∧
    (∀ st ∈ [LaneState.checking, .inquiring, .waiting, .denied], ((withLane (inState st)).lane .lu1).state = st ∧
      liveLane (withLane (inState st)) .lu1 = true ∧ ((withLane (inState st)).lane .lu1).silenceTimer = some 3000) := by
  decide

def denied : Lane := { inState .denied with stateTimer := some 1500, medium := some 7, mediumPresent := true }

def grantState : State := (withLane granted).withSm { ready.sm with window := some window }

theorem witness_LaneTimersEnd : liveLane (withLane denied) .lu1 = true ∧ (withLane denied).sm.waiting = [] ∧
    ((withLane denied).lane .lu1).stateTimer = some 1500 ∧ liveLane grantState .lu1 = true ∧
    (grantState.lane .lu1).stateTimer = some 8000 ∧ (grantState.lane .lu1).grant.isSome = true ∧
    grantState.sm.window = some window ∧ (grantState.lane .lu1).beamStuck = false ∧
    ((withLane { passing with stateTimer := some 12000 }).lane .lu1).stateTimer = some 12000 ∧
    ((withLane { inState .idle with beamTimer := some 20000 }).lane .lu1).beamTimer = some 20000 := by decide

/-- R26: a grant and a passage that run out with a fault cause, and a passage with a disable pending. -/
theorem witness_LaneTimersEnd_fault :
    let out := { passing with stateTimer := some 12000, readerSilent := true }
    let t := after (.grantExpiry .lu1) (withLane { granted with beamStuck := true })
    liveLane (withLane out) .lu1 = true ∧ (granted).stateTimer.isSome = true ∧ granted.grant.isSome = true ∧
    (t.lane .lu1).state = .fault ∧ t.hlc.flags.getD EventClass.laneFault.code false = true ∧
    ((after (.passingLimitExpiry .lu1) (withLane out)).lane .lu1).state = .fault ∧
    ((after (.passingLimitExpiry .lu1) (withLane { out with disablePending := true })).lane .lu1).state = .disabled := by
  decide +kernel

theorem witness_LaneModeActsByState : SlotFor ready .s1 ∧ laneOf 0 = none ∧ laneOf 7 = none ∧ laneOf 6 = some .lu6 ∧
    SlotFor (ready.withSps { ready.sps with straps := { lanes := 2, rate := 0 } }) .s1 ∧ fittedLanes 2 < 3 ∧
    1 ≤ fittedLanes ready.sps.straps.lanes ∧ SlotFor (withLane passing) .s1 ∧ SlotFor (withLane granted) .s1 ∧
    SlotFor grantState .s1 ∧ grantState.sm.window = some window ∧ window.number = 1 ∧ grantState.sm.waiting = [] ∧
    SlotFor (withLane { inState .disabled with beamStuck := true }) .s1 ∧ SlotFor (withLane (inState .checking)) .s1 :=
  by decide

def lookup : Lookup :=
  { requester := .lane .lu1 0, pass := 1, urgent := false, queuedAt := 0, occupancy := false }

/-- A lane in CHECKING whose lookup is in flight, with product 0 sold and a record of pass 1 in slot 0 of bucket 1. -/
def checking (r : Option PassRecord) (link : LinkState) : State :=
  let s := (selling.setLane .lu1 { inState .checking with image := some image }).withPsc
    { selling.psc with op := some { op := .lookupRead lookup, issued := 0 } }
  let s := s.withIqu { s.iqu with link := link }
  match r with
  | some x => s.withStore (s.store.writeBytes (slotAddress 1 0) x.bytes)
  | none => s

theorem witness_LaneLookupCompletes : mainOn (checking none .online) = true ∧
    (checking none .online).psc.op.map (·.op) = some (.lookupRead lookup) ∧
    recordOf (forwarded (checking none .online) 1) 1 = none ∧ (checking none .online).iqu.pending = none ∧
    recordOf (forwarded (checking (some (record 1)) .online) 1) 1 = some (record 1) ∧
    recordDenies (checking (some (record 1)) .online) (record 1) = none ∧
    scheduleDenies (checking (some (record 1)) .online) = none ∧
    windowFree (checking (some (record 1)) .online) = false ∧
    recordDenies (checking none .online) { record 1 with status := .suspended } = some .suspended ∧
    ((checking none .online).lane .lu2).state ≠ .checking := by decide +kernel

/-- The state with n lanes in the inquiry unit's wait list. -/
def queueing (n : Nat) (s : State) : State :=
  let e : InquiryWait := { lane := .lu2, presentation := 0, image := image, origin := .miss, timer := some 7 }
  let p : PendingInquiry :=
    { number := 5, lane := .lu3, presentation := 0, pass := 9, image := image, lanePresent := true, timeout := some 1500 }
  s.withIqu { s.iqu with pending := some p, waiting := List.replicate n e }

/-- Product 0 with the offline policy IMAGE. -/
def admitting (s : State) : State :=
  s.withSps { s.sps with products := s.sps.products.set 0 { worked .consecutive 5 0 500 1500 50 with policy := .image } }

theorem witness_LaneLookupCompletes_gates :
    scheduleDenies ((checking (some (record 1)) .online).withDu { ready.du with sched := .closed }) = some .closedHours ∧
    (let s := (checking (some (record 1)) .online).withSm { ready.sm with window := some window }
     s.sm.waiting = [] ∧ s.sm.window = some window ∧ window.granted < window.seats ∧ journalGrants s = true ∧
       postingGrants s = true) ∧
    (let s := queueing 4 (checking none .online)
     s.iqu.pending.isSome = true ∧ s.iqu.waiting.length < 5 ∧ recordOf (forwarded s 1) 1 = none) ∧
    5 ≤ (queueing 5 (checking none .online)).iqu.waiting.length ∧
    policyDenies (checking none .offline) image .miss = some .unknownPass ∧ (checking none .offline).iqu.link = .offline ∧
    (let s := admitting (checking none .offline)
     policyDenies s image .miss = none ∧ scheduleDenies s = none ∧ windowFree s = false) := by decide +kernel

theorem witness_WritesOfTheStoreDevice : StoreOk ready ∧ (record 500123).fits ∧
    (withOp (.closureWrite (closure 121 620))).psc.op.isSome = true ∧
    ((withOp (.closureWrite (closure 121 620))).withPsc { ready.psc with postings := [.drop 1] }).psc.postings =
      [.drop 1] := by decide +kernel

/-- A posting cycle whose bucket read is in flight. -/
def cycle (p : Posting) : State :=
  let s := ready.withPsc { ready.psc with op := some { op := .postingRead, issued := 0 }, postings := [p] }
  s.withStore (s.store.writeBytes (slotAddress 1 0) (record 1).bytes)

theorem witness_ForwardingAgreesWithTheStore : mainOn (cycle (.status 1 .suspended none)) = true ∧
    StoreOk (cycle (.status 1 .suspended none)) ∧ (Posting.status 1 .suspended none).pass = some 1 ∧
    applyPosting (readBucket (cycle (.status 1 .suspended none)).store (bucketOf 1)) false (.status 1 .suspended none) =
      .write 0 { record 1 with status := .suspended } ∧ ({ record 1 with status := .suspended } : PassRecord).fits ∧
    applyPosting (readBucket (cycle (.drop 2)).store (bucketOf 2)) false (.drop 2) = .lost := by decide +kernel

theorem witness_StoreOperationsFailTwice : mainOn storeBusy = true ∧ storeBusy.psc.op.isSome = true ∧
    storeBusy.psc.failures = 0 ∧ State.reset.psc.op.map (·.op) = some (.mountHeader true) ∧
    (State.reset.withPsc { State.reset.psc with failures := 1 }).psc.failures ≠ 0 ∧
    State.reset.psc.lookups = [] ∧ max 0 (0 + 50) = 50 := by decide

/-- R66, R67: the mode at 23 and 24 postings and at 9 and 8, and the operation that each mode's column gives. -/
theorem witness_ForwardingAgreesWithTheStore_port :
    let lane : Lookup := { requester := .lane .lu1 0, pass := 1, urgent := false, queuedAt := 0, occupancy := false }
    let service : Lookup := { lane with requester := .service .s1 }
    let s := ready.withPsc { ready.psc with postings := List.replicate 23 (.drop 1), lookups := [service, lane] }
    let t := s.withPsc { s.psc with mode := .postingFirst, postings := List.replicate 9 (.drop 1) }
    let urgent := t.withPsc { t.psc with lookups := [service, { lane with urgent := true }] }
    s.psc.mode = .lookupFirst ∧ s.psc.postings.length + 1 = 24 ∧ (enqueue (.drop 2) s).psc.mode = .postingFirst ∧
    (enqueue (.drop 2) (s.withPsc { s.psc with postings := List.replicate 22 (.drop 1) })).psc.mode = .lookupFirst ∧
    (removeHead t).psc.mode = .lookupFirst ∧ (removeHead (enqueue (.drop 1) t)).psc.mode = .postingFirst ∧
    s.chosen = some (.lookupRead lane) ∧ t.chosen = some .postingRead ∧
    urgent.chosen = some (.lookupRead { lane with urgent := true }) ∧ mainOn s = true ∧ s.psc.op = none ∧
    (s.withPsc { s.psc with lookups := [service] }).chosen = some (.lookupRead service) := by decide +kernel

def serviceLookup : Lookup :=
  { requester := .service .s1, pass := 1, urgent := false, queuedAt := 0, occupancy := true }

/-- An operation in flight that has failed once. -/
def failing (op : StoreOp) : State :=
  let s := withOp op
  (s.withPsc { s.psc with failures := 1 }).setSlot .s1 (some { request := .passRead 7 1, progress := .lookup })

theorem witness_StoreOperationsFailTwice_second :
    (let s := (failing (.mountHeader true)).withPsc { (failing (.mountHeader true)).psc with lookups := [serviceLookup] }
     mainOn s = true ∧ s.psc.failures ≠ 0 ∧ s.psc.lookups = [serviceLookup] ∧
       s.hlc.slots.get .s1 = some { request := .passRead 7 1, progress := .lookup }) ∧
    (failing (.lookupRead serviceLookup)).psc.lookups = [] ∧ serviceLookup.requester = .service .s1 ∧
    (let s := (checking none .offline).withPsc { (checking none .offline).psc with failures := 1 }
     s.psc.failures ≠ 0 ∧ s.psc.lookups = [] ∧ lookup.requester = .lane .lu1 (s.lane .lu1).presentation ∧
       (s.lane .lu1).state = .checking ∧
       policyDenies s ((s.lane .lu1).image.getD []) .storeError = some .storeFault) ∧
    (let s := (failing .postingRead).withPsc { (failing .postingRead).psc with postings := [.drop 1] }
     mainOn s = true ∧ s.psc.op.map (·.op) = some .postingRead ∧ s.psc.postings = [.drop 1] ∧ s.sm.waiting = [] ∧
       recordFree s = true ∧ recordFree (s.withJnl { s.jnl with credits := 1023 }) = false) := by decide +kernel

theorem witness_StoreOperationsFailTwice_requests :
    (let s := failing (.recoverHeader .s1)
     mainOn s = true ∧ s.psc.failures ≠ 0 ∧ s.psc.lookups = [] ∧ (s.hlc.slots.get .s1).isSome = true) ∧
    (∀ st ∈ [FormatStep.invalidHeader, .bucket 8191, .closureArea, .validHeader],
      let s := failing (.format .s1 st)
      s.psc.op.map (·.op) = some (.format .s1 st) ∧ s.psc.lookups = [] ∧ (StoreOp.format .s1 st).writes = true) ∧
    (failing (.mountClosure 3)).psc.op.map (·.op) = some (.mountClosure 3) ∧ (StoreOp.mountClosure 3).writes = false ∧
    (StoreOp.closureWrite (closure 121 620)).writes = true ∧
    (deviceWrite (.closureWrite (closure 121 620)) 0 ready).store ≠ ready.store := by decide +kernel

theorem witness_LookupsArePromoted :
    let s := storeBusy.withPsc { storeBusy.psc with lookups := [lookup] }
    mainOn s = true ∧ s.psc.lookups = [] ++ lookup :: [] ∧ lookup.requester = .lane .lu1 0 ∧ lookup.urgent = false := by
  decide

def mounted : State := State.reset.withStore (State.reset.store.writeBytes 0 (headerBytes 9))

theorem witness_StoreMounts : mainOn mounted = true ∧ mountedHeader mounted = some 9 ∧
    mountedHeader State.reset = none ∧ mounted.psc.op.map (·.op) = some (.mountHeader true) ∧
    (withOp (.mountClosure 9)).psc.op.isSome = true ∧
    (((withOp (.recoverHeader .s2)).setSlot .s2 (some { request := .storeRecover 1, progress := .recovering })).hlc.slots.get
      .s2).isSome = true := by decide +kernel

theorem witness_StoreMounts_log :
    let s := (onDay 122 [closure 121 620]).withStore
      (ready.store.writeBytes 1572928 ((closure 121 500).bytes ++ (closure 122 700).bytes))
    let log := (rebuildLog s).du.log
    LogOk s ∧ (closureArea s).filter (fun e => e.day != 0) = [closure 121 500, closure 122 700] ∧
    log = [closure 121 620, closure 122 700] ∧ mountedHeader s = none ∧ s.psc.lookups = [] := by decide +kernel

def inStore (st : StoreState) : State := ready.withPsc { ready.psc with state := st }

theorem witness_StoreServiceAndFormat : SlotFor ready .s1 ∧ SlotFor (inStore .mounting) .s1 ∧
    SlotFor (inStore .formatting) .s1 ∧ SlotFor (inStore .faulted) .s1 ∧ (inStore .faulted).psc.postings = [] ∧
    (inStore .faulted).psc.lookups = [] ∧ (inStore .faulted).psc.op = none ∧
    (∀ st ∈ [FormatStep.invalidHeader, .bucket 0, .bucket 8191, .closureArea, .validHeader],
      mainOn (withOp (.format .s1 st)) = true ∧ (withOp (.format .s1 st)).psc.op.isSome = true) := by decide +kernel

theorem witness_StoreServiceAndFormat_lookup :
    let s := withOp (.lookupRead serviceLookup)
    SlotFor s .s1 ∧ s.psc.state = .ready ∧ s.psc.postings = [] ∧ s.psc.lookups = [] ∧
      (after (.storeFormat 3) s).hlc.queue.getLast? = some (.reply .s1 18 3 (.status .busy)) := by decide +kernel

def pendingInquiry (present : Bool) : PendingInquiry :=
  { number := 5, lane := .lu1, presentation := 0, pass := 1, image := image, lanePresent := present
    timeout := some 1500 }

def inquiring (present : Bool) : State :=
  (storeBusy.setLane .lu1 (inState .inquiring)).withIqu { storeBusy.iqu with
    link := .online, pending := some (pendingInquiry present), lastEnded := some (4, 1) }

theorem witness_LinkStateIsSet : SlotFor ready .s1 ∧ ready.iqu.link = .offline ∧ ready.iqu.pending = none ∧
    SlotFor (inquiring false) .s1 ∧ (inquiring false).iqu.link = .online ∧
    (inquiring false).iqu.pending = some (pendingInquiry false) ∧ (inquiring false).iqu.waiting = [] ∧
    SlotFor (inquiring true) .s1 ∧ takesOutcome (inquiring true) .lu1 0 = true ∧
    policyDenies (inquiring true) image .miss = some .unknownProduct := by decide +kernel

/-- A second lane in INQUIRING that stands in the wait list, beside a pending inquiry or alone. -/
def listed (pending : Bool) : State :=
  let s := (inquiring true).setLane .lu2 (inState .inquiring)
  s.withIqu { s.iqu with
    pending := if pending then s.iqu.pending else none
    waiting := [{ lane := .lu2, presentation := 0, image := image, origin := .miss, timer := some 7 }] }

theorem witness_LinkStateIsSet_waiting : SlotFor (listed true) .s1 ∧ (listed true).iqu.link = .online ∧
    (listed false).iqu.pending = none ∧ (listed true).iqu.pending = some (pendingInquiry true) ∧
    (listed true).iqu.waiting.map (·.lane) = [.lu2] ∧ (pendingInquiry true).lane ≠ .lu2 ∧
    takesOutcome (listed true) .lu1 0 = true ∧ takesOutcome (listed true) .lu2 0 = true ∧
    takesOutcome (listed false) .lu2 0 = true ∧
    policyDenies (listed true) image .miss = some .unknownProduct := by decide +kernel

theorem witness_InquiryAnswersAreMatched : SlotFor (inquiring true) .s1 ∧ LookupsQueue (inquiring true) ∧
    (inquiring true).iqu.pending = some (pendingInquiry true) ∧ (pendingInquiry true).number = 5 ∧
    takesOutcome (inquiring true) .lu1 0 = true ∧ (inquiring true).iqu.lastEnded = some (4, rawZero.passId) ∧
    rawAccepted rawZero = true ∧ postingGrants (inquiring true) = true ∧
    (inquiring true).iqu.lastEnded.any (fun e => e.1 == 9) = false ∧ (inquiring true).iqu.waiting = [] ∧
    policyDenies (inquiring true) image .miss = some .unknownProduct ∧ (pendingInquiry true).pass = rawZero.passId ∧
    (pendingInquiry false).lanePresent = false ∧ SlotFor (inquiring false) .s1 ∧ LookupsQueue (inquiring false) ∧
    recordDenies (inquiring true) (rawToRecord rawZero) = some .unknownProduct := by decide +kernel

theorem witness_InquiryAnswersAreMatched_admit :
    let s := selling.setLane .lu1 (inState .inquiring)
    let s := s.withIqu { s.iqu with link := .online, pending := some (pendingInquiry true) }
    SlotFor s .s1 ∧ LookupsQueue s ∧ postingGrants s = true ∧ takesOutcome s .lu1 0 = true ∧
      recordDenies s (rawToRecord rawZero) = none ∧ scheduleDenies s = none ∧ windowFree s = false := by decide +kernel

theorem witness_InquiryAnswersAreMatched_store :
    let free := (inquiring true).withPsc ready.psc
    let bad := (inquiring true).withPsc { ready.psc with state := .faulted }
    SlotFor free .s1 ∧ LookupsQueue free ∧ free.psc.op = none ∧ postingGrants free = true ∧
    (after (.inquiryAnswer 1 5 0 (some rawZero)) free).psc.op.isSome = true ∧
    SlotFor bad .s1 ∧ LookupsEnd bad ∧ NoSeatWork bad ∧ postingGrants bad = true ∧
    (after (.inquiryAnswer 1 4 0 (some rawZero)) bad).hlc.queue.getLast? =
      some (.reply .s1 20 1 (.answer .late (some .storeFault))) := by decide +kernel

theorem witness_InquiryTimersExpire : mainOn (inquiring true) = true ∧ (pendingInquiry true).timeout = some 1500 ∧
    policyDenies (inquiring true) image .miss = some .unknownProduct ∧ takesOutcome (inquiring true) .lu1 0 = true ∧
    ((inquiring true).withIqu { ready.iqu with waiting :=
      [{ lane := .lu1, presentation := 0, image := image, origin := .miss, timer := some 7 }] }).iqu.waiting.length = 1 :=
  by decide +kernel

/-- Lane 1 in INQUIRING with product 0 on sale, the policy IMAGE, and a window. -/
def deciding (present : Bool) (w : Option Window) : State :=
  let s := (admitting selling).setLane .lu1 (inState .inquiring)
  let q := { s.iqu with link := .online, pending := some (pendingInquiry present), lastEnded := some (4, 1) }
  (s.withIqu q).withSm { s.sm with window := w }

/-- R87, R89: a record of another pass is BAD_FIELD and the inquiry stays; with no posting credit the install is BUSY; an admitted lane
is granted at once, also where its grant takes the last posting credit. -/
theorem witness_InquiryAnswersAreMatched_refused :
    let answer (number : Nat) (raw : RawRecord) (s : State) := after (.inquiryAnswer 1 number 0 (some raw)) s
    let other : RawRecord := { rawZero with passId := 9 }
    let credits (c : Nat) : State :=
      let s := deciding true (some window)
      s.withPsc { s.psc with credits := c }
    let s := credits 32
    SlotFor s .s1 ∧ takesOutcome s .lu1 0 = true ∧ recordDenies s (rawToRecord rawZero) = none ∧ scheduleDenies s = none ∧
    (answer 5 other s).iqu = s.iqu ∧ (answer 5 other s).hlc.queue.getLast? = some (.reply .s1 20 1 (.status .badField)) ∧
    (answer 4 other s).hlc.queue.getLast? = some (.reply .s1 20 1 (.status .badField)) ∧ rawAccepted rawZero = true ∧
    rawAccepted { rawZero with passId := 0 } = false ∧ postingGrants s = false ∧ journalGrants s = true ∧
    s.sm.waiting = [] ∧ ((answer 5 rawZero s).lane .lu1).state = .waiting ∧
    (answer 5 rawZero s).hlc.queue.getLast? = some (.reply .s1 20 1 (.answer .ok (some .busy))) ∧
    (answer 4 rawZero s).hlc.queue.getLast? = some (.reply .s1 20 1 (.answer .late (some .busy))) ∧
    ((answer 5 rawZero (credits 31)).lane .lu1).state = .granted ∧ LookupsQueue (credits 30) ∧
    (credits 30).psc.postings.length + 30 + 2 ≤ 32 ∧ ((answer 5 rawZero (credits 30)).lane .lu1).state = .granted ∧
    (answer 5 rawZero (credits 30)).psc.credits = 32 ∧
    LookupsEnd ((credits 0).withPsc { ready.psc with state := .faulted }) := by decide +kernel

/-- R86, R90, R92: a timeout of a lane that has gone, and one whose lane the policy admits PROVISIONAL, with a seat and without. -/
theorem witness_InquiryTimersExpire_provisional :
    let gone := deciding false none
    let waits := deciding true none
    let sits := deciding true (some window)
    mainOn gone = true ∧ (pendingInquiry false).lanePresent = false ∧ (after .inquiryTimeoutExpiry gone).lanes = gone.lanes ∧
    takesOutcome waits .lu1 0 = true ∧ policyDenies waits image .miss = none ∧ scheduleDenies waits = none ∧
    windowFree waits = false ∧ ((after .inquiryTimeoutExpiry waits).lane .lu1).state = .waiting ∧
    sits.sm.waiting = [] ∧ sits.sm.window = some window ∧ journalGrants sits = true ∧
    (after .inquiryTimeoutExpiry sits).iqu.provisional.length = 1 ∧
    ((after .inquiryTimeoutExpiry sits).lane .lu1).state = .granted := by decide +kernel

/-- R84, R85: the inquiry of the second lane follows the end of the first, by its timeout and by an answer; an entry between two others
leaves by its own wait. -/
theorem witness_NextInquiry :
    let e (n : LaneNo) : InquiryWait := { lane := n, presentation := 0, image := image, origin := .miss, timer := some 7 }
    let s := (inquiring true).withIqu { (inquiring true).iqu with number := 255, waiting := [e .lu2] }
    let t := after .inquiryTimeoutExpiry s
    s.iqu.link = .online ∧ s.iqu.waiting = e .lu2 :: [] ∧ t.iqu.pending.map (·.number) = some 0 ∧ t.iqu.waiting = [] ∧
      t.iqu.pending.map (·.timeout) = some (some (1500 + s.sps.bank.inquiryTimeout)) ∧ SlotFor s .s1 ∧
      (after (.inquiryAnswer 1 5 1 none) s).iqu.pending.map (·.lane) = some .lu2 ∧
      ([e .lu3, e .lu2, e .lu4] = [e .lu3] ++ e .lu2 :: [e .lu4]) ∧ (∀ y ∈ [e .lu3] ++ [e .lu4], y.lane ≠ .lu2) := by
  decide +kernel

theorem witness_GrantStepTakesSeatAndCredits : grantState.sm.window = some window ∧ journalGrants grantState = true ∧
    postingGrants grantState = true ∧ journalGrants (grantState.withJnl { ready.jnl with credits := 1023 }) = false ∧
    postingGrants (grantState.withPsc { ready.psc with credits := 32 }) = false ∧
    (wait .lu2).admission = .storeBacked := by decide +kernel

/-- Lanes that wait for a seat of a window. -/
def waitingFor (w : Option Window) (lanes : List LaneNo) : State :=
  let s := ready.withLanes (Lanes.ofFn (fun n => if n ∈ lanes then inState .waiting else Lane.started))
  s.withSm { s.sm with window := w, waiting := lanes.map wait }

/-- R17, R104: the seat of an expired grant goes to the lane that waits, where the window is its own and has no other free seat. -/
theorem witness_LaneTimersEnd_waiting :
    let s := (waitingFor (some { window with seats := 1 }) [.lu2]).setLane .lu1 granted
    let t := after (.grantExpiry .lu1) s
    liveLane s .lu1 = true ∧ (∀ e ∈ s.sm.waiting, e.lane ≠ .lu1) ∧ s.sm.waiting.length = 1 ∧ (t.lane .lu1).state = .denied ∧
      (t.lane .lu2).state = .granted ∧ t.sm.window.map (·.granted) = some 1 := by decide +kernel

/-- R174, R178: a release frees a position of a full journal, and the lane that waits takes it with a seat. -/
theorem witness_JournalIsReadAndReleased_waiting :
    let s := waitingFor (some window) [.lu2]
    let s := s.withJnl { s.jnl with credits := 1023 }
    let t := after (.journalRelease 1 1 1) s
    SlotFor s .s1 ∧ s.sm.waiting.length = 1 ∧ journalGrants s = false ∧ t.jnl.records = [] ∧
      (t.lane .lu2).state = .granted := by decide +kernel

theorem witness_GrantPass :
    let s := waitingFor (some window) [.lu2, .lu3, .lu4, .lu5]
    s.sm.window = some window ∧ (s.sm.waiting.map (·.lane)).Nodup ∧ s.sps.epoch < 65535 ∧
    s.jnl.records.length + s.jnl.credits + s.sm.waiting.length ≤ 1024 ∧
    s.psc.postings.length + s.psc.credits + s.sm.waiting.length ≤ 32 ∧
    min (window.seats - window.granted) s.sm.waiting.length = 3 ∧ windowFree (waitingFor none [.lu2]) = false ∧
    windowFree s = true ∧ journalGrants (s.withJnl { s.jnl with credits := 1023 }) = false := by decide +kernel

theorem witness_WindowsOpen : mainOn ready = true ∧ ready.sm.waiting = [] ∧ ready.sps.bank.source = .pulse ∧
    ready.sm.halt = none ∧ ready.sm.reference = none ∧
    (ready.withSps { ready.sps with bank := { ready.sps.bank with source := .timer } }).sps.bank.source = .timer ∧
    (ready.withSm { ready.sm with halt := some ⟨121, 1⟩ }).sm.halt = some ⟨121, 1⟩ ∧
    (ready.withSm { ready.sm with windowTimer := some 8000 }).sm.windowTimer = some 8000 ∧
    (ready.withSm { ready.sm with reference := some ⟨121, 1⟩ }).sm.reference.isSome = true ∧
    ready.sm.chair.high = false ∧ ready.sm.chair.low = 0 ∧ (ready.pulse ready.sm.chair 5 16).2 = some 21 ∧
    (ready.pulse ready.sm.chair 5 15).2 = none ∧ (ready.pulse ready.sm.chair 0 16) = (true, none) ∧
    (ready.pulse ready.sm.chair 1 16) = (true, some 17) := by decide

/-- R100, R114: a counted window ends with a lane waiting, which the new one grants at once. -/
theorem witness_WindowsOpen_waiting :
    let s := waitingFor (some window) [.lu2]
    let t := after (.chairPulse 5 16) s
    let u := after .windowTimerExpiry (s.withSm { s.sm with windowTimer := some 8000 })
    mainOn s = true ∧ s.sm.waiting.length = 1 ∧ s.sm.halt = none ∧ t.jnl.day.endedWaiting = 1 ∧
      (t.lane .lu2).state = .granted ∧ u.jnl.day.endedWaiting = 1 ∧ u.sm.windowTimer = some 16000 := by decide +kernel

/-- R112, R128: a pulse under a declared HALT, reported to the day unit or not, with a free position and without one. -/
theorem witness_WindowsOpen_halt :
    let s := (ready.withSm { ready.sm with halt := some ⟨121, 1⟩ }).withDu { ready.du with halt := some ⟨121, 1⟩ }
    let t := after (.chairPulse 5 16) s
    s.sm.halt = some ⟨121, 1⟩ ∧ s.du.halt = some ⟨121, 1⟩ ∧ recordFree s = true ∧
      recordFree (s.withJnl { s.jnl with credits := 1023 }) = false ∧ ready.du.halt = none ∧
      t.jnl.records.map (·.body.code) = [8, 5] := by decide +kernel

theorem witness_HaltAndWaitTimeout :
    let armedAt := ready.withSm { ready.sm with haltTimer := some 20000, reference := some ⟨121, 39980⟩ }
    let waiting := ready.withSm { ready.sm with waiting := [wait .lu1] }
    mainOn armedAt = true ∧ armedAt.sm.haltTimer = some 20000 ∧ armedAt.sm.reference = some ⟨121, 39980⟩ ∧
    mainOn waiting = true ∧ waiting.sm.waiting = [] ++ wait .lu1 :: [] ∧ (wait .lu1).timer = some 100 := by decide

/-- R108, R127: at a HALT with lanes that wait, one that is granted and a span of 10 s held, the day takes the 10 s left. -/
theorem witness_HaltAndWaitTimeout_lanes :
    let s := (waitingFor (some window) [.lu2, .lu3]).setLane .lu1 granted
    let s := s.withSm { s.sm with haltTimer := some 20000, reference := some ⟨121, 39980⟩ }
    let s := s.withDu { s.du with spans := [{ start := 39985, finish := 39995, isOpen := false }] }
    mainOn s = true ∧ (∀ e ∈ s.sm.waiting, (s.lane e.lane).state = .waiting) ∧ (s.lane .lu1).state = .granted ∧
    SpansOk s ∧ 121 ≤ s.du.day ∧ s.du.spans.length ≤ 3 ∧ s.du.lost + 10 ≤ s.sps.schedule.seconds ∧
    (List.range 20).all (fun k => ((s.withDu { s.du with sec := 20 }).withSps { s.sps with
      schedule := { s.sps.schedule with openSec := 0 } }).backdated ⟨120, 86390⟩ |>.contains k) = true ∧
    (after .haltDetectExpiry s).du.lost = 10 ∧
    (after .haltDetectExpiry s).du.spans.map (fun x => (x.start, x.finish)) =
      [(39980, 39985), (39985, 39995), (39995, 40000)] := by decide +kernel

theorem witness_ScheduleIsSetAndFollowed : scheduleAccepted 30600 57600 900 = true ∧ SlotFor ready .s1 ∧
    scheduleAccepted 0 3600 1800 = true ∧ scheduleAccepted 0 3599 0 = false ∧ scheduleAccepted 0 86400 0 = false := by
  decide

/-- R110, R122: a schedule state that opens arms detection, one that closes disarms it, and OPEN to LAST_CALL leaves it. -/
theorem witness_ScheduleIsSetAndFollowed_detection :
    let shut := ready.withDu { ready.du with sched := .closed }
    let armedAt := ready.withSm { ready.sm with reference := some ⟨121, 39990⟩, haltTimer := some 5 }
    SlotFor shut .s1 ∧ SlotFor armedAt .s1 ∧
    (shut.meterAt .isOpen ⟨121, 40000⟩).reference = some ⟨121, 40000⟩ ∧ (armedAt.meterAt .closed ⟨121, 40000⟩).haltTimer = none ∧
    armedAt.meterAt .lastCall ⟨121, 40000⟩ = armedAt.sm ∧
    (armedAt.meterAfterSet .lastCall ⟨121, 40000⟩).reference = some ⟨121, 40000⟩ ∧
    ready.meterAfterSet .lastCall ⟨121, 40000⟩ = ready.sm ∧
    (after (.scheduleSet 1 30600 57600 900) shut).sm.reference = some ⟨121, 40000⟩ := by decide +kernel

theorem witness_ClockAdvancesWithinADay : mainOn ready = true ∧ ready.psc.state = .ready ∧ ready.psc.op = none ∧
    ({ ready with psc := { ready.psc with postings := [.drop 1] } } : State).psc.postings ≠ [] ∧
    storeBusy.psc.op.isSome = true ∧ storeBusy.sps.retainedLost = false ∧
    storeBusy.du.day ≠ 0 ∧ storeBusy.du.sec + 1 < daySeconds ∧ State.reset.du.day = 0 ∧
    State.reset.psc.op.isSome = true := by decide

/-- In a hold at a day second, with accrued spans. -/
def inHold (sec : Nat) (spans : List Span) : State :=
  (atClock 121 sec).withDu { (atClock 121 sec).du with hold := some { cause := .wind, start := ⟨121, 1⟩ }, spans := spans }

/-- R126: with 8 spans still held the two oldest are merged; 120 s after its end the oldest leaves instead; the open span is extended,
and closed at the close. -/
theorem witness_ClockAdvancesWithinADay_spans :
    let full := inHold 40000 spans8
    let late := inHold 40025 spans8
    let last := inHold 57599 [{ start := 57590, finish := 57599, isOpen := true }]
    SpansOk full ∧ (∀ x ∈ full.du.spans, x.isOpen = false) ∧ full.sps.schedule.openSec ≤ 40000 ∧
    full.sps.retainedLost = false ∧ last.sps.schedule.closeSec = 57600 ∧
    (after .clockAdvance full).du.spans.head? = some { start := 39900, finish := 39915, isOpen := false } ∧
    (after .clockAdvance full).du.spans.getLast? = some { start := 40000, finish := 40001, isOpen := true } ∧
    (after .clockAdvance late).du.spans.head? = some { start := 39910, finish := 39915, isOpen := false } ∧
    (after .clockAdvance last).du.spans = [{ start := 57590, finish := 57600, isOpen := false }] ∧
    (after .clockAdvance last).du.lost = 1 := by decide +kernel

/-- A full closure log, of the days 1 to 96, at the end of day 121. -/
def fullLog : State :=
  (atClock 121 86399).withDu { ready.du with sec := 86399, log := (List.range 96).map (fun k => closure (k + 1) 3) }

theorem witness_DayRollsOver_full : LogOk fullLog ∧ fullLog.du.log.length = 96 ∧
    fullLog.du.log.find? (fun e => e.day == 121) = none ∧ dayDistance 96 121 < dayDistance 1 121 ∧
    (after .clockAdvance fullLog).du.log.map (·.day) = (List.range 95).map (· + 2) ++ [121] ∧
    recordFree (fullLog.withJnl { ready.jnl with credits := 1023 }) = false ∧
    (after .clockAdvance (fullLog.withJnl { ready.jnl with credits := 1023 })).jnl.cumulative.dropped = 1 := by
  decide +kernel

theorem witness_DayRollsOver : (atClock 121 86399).sps.retainedLost = false ∧ (atClock 65535 86399).du.day = 65535 ∧
    (atClock 121 86399).du.sec = 86399 ∧ (atClock 121 86399).sps.schedule.closeSec ≤ 86399 ∧
    recordFree (atClock 121 86399) = true ∧ LogOk (atClock 121 86399) ∧
    (atClock 121 86399).du.log.find? (fun e => e.day == 121) = none ∧
    (let s := (atClock 121 86399).withPsc { ready.psc with credits := 30 }
     let s := s.withDu { s.du with log := [{ closure 119 3 with unsaved := true }, { closure 120 3 with unsaved := true }] }
     LogOk s ∧ s.psc.postings.length + s.psc.credits < 32 ∧
       (after .clockAdvance s).psc.postings.map (fun p => match p with
         | .closure e => (e.day, e.unsaved)
         | _ => (0, true)) = [(121, false), (119, false)]) := by decide +kernel

theorem witness_TimeSetComparesWithTheClock : SlotFor storeBusy .s1 ∧ storeBusy.du.day = 121 ∧
    storeBusy.du.sec = 40000 ∧ SlotFor State.reset .s1 ∧ State.reset.du.day = 0 ∧
    (after (.timeSet 1 122 86399) storeBusy).now = ⟨122, 86399⟩ ∧
    (after (.timeSet 1 122 86400) storeBusy).now = ⟨121, 40000⟩ ∧
    (after (.timeSet 1 122 86400) storeBusy).hlc.queue.getLast? = some (.reply .s1 11 1 (.status .badField)) := by
  decide +kernel

/-- R120, R121, R126: a set within the day under a hold ends the open span and opens one at the given second, none outside the schedule;
a full list makes room; a SCHEDULE_SET keeps the spans and closes the open one at a close that has passed. -/
theorem witness_TimeSetComparesWithTheClock_spans :
    let held := inHold 40000 [{ start := 39990, finish := 40000, isOpen := true }]
    let full := inHold 40000 spans8
    let set (sec : Nat) (s : State) : List Span := (after (.timeSet 1 121 sec) s).du.spans
    SlotFor held .s1 ∧ SpansOk held ∧ SpansOk full ∧ SlotFor full .s1 ∧
    set 40001 held = [{ start := 39990, finish := 40000, isOpen := false }, { start := 40001, finish := 40001, isOpen := true }] ∧
    set 57600 held = [{ start := 39990, finish := 40000, isOpen := false }] ∧
    set 40120 held = [{ start := 40120, finish := 40120, isOpen := true }] ∧
    (set 40001 full).head? = some { start := 39900, finish := 39915, isOpen := false } ∧ (set 40001 full).length = 8 ∧
    (after (.scheduleSet 1 30600 50000 0) held).du.spans = held.du.spans ∧
    (after (.scheduleSet 1 30600 40000 0) held).du.spans = [{ start := 39990, finish := 40000, isOpen := false }] := by
  decide +kernel

theorem witness_TimeSetComparesWithTheClock_close :
    let t := after (.timeSet 1 125 0) fullLog
    SlotFor fullLog .s1 ∧ t.du.log.map (·.day) = (List.range 95).map (· + 2) ++ [121] ∧ t.now = ⟨125, 0⟩ ∧
    t.jnl.records.length = 2 ∧ t.psc.postings.length = 1 := by decide +kernel

theorem witness_HoldsBeginAndEnd : SlotFor ready .s1 ∧ holdCauseOf 2 = some .other ∧ holdCauseOf 3 = none ∧
    ready.du.hold = none ∧ ready.sm.waiting = [] ∧ (∀ n ∈ allLanes, (ready.lane n).state ≠ .granted) ∧
    SlotFor (ready.withDu { ready.du with hold := some { cause := .wind, start := ⟨121, 1⟩ } }) .s1 ∧
    recordFree ready = true ∧ recordFree (ready.withJnl { ready.jnl with credits := 1023 }) = false := by decide +kernel

theorem witness_HoldsBeginAndEnd_lanes :
    let s := (waitingFor (some window) [.lu2, .lu3]).setLane .lu1 granted
    SlotFor s .s1 ∧ s.du.hold = none ∧ (∀ e ∈ s.sm.waiting, (s.lane e.lane).state = .waiting) ∧
    (s.lane .lu1).state = .granted ∧ (s.lane .lu4).state ≠ .granted ∧ (∀ e ∈ s.sm.waiting, e.lane ≠ .lu4) ∧
    (s.sm.waiting.filter (fun e => e.lane == .lu2)).length = 1 := by decide +kernel

theorem witness_ClosureLogRequests :
    let s := (onDay 121 [closure 121 620]).withPsc storeBusy.psc
    SlotFor s .s1 ∧ LogOk s ∧ (1 ≤ 26 ∧ s.du.day ≤ 26 + 95 ∧ 26 ≤ s.du.day) ∧ ¬ (s.du.day ≤ 25 + 95) ∧
    s.du.log.find? (fun e => e.day == 121) = some (closure 121 620) ∧ s.du.log.find? (fun e => e.day == 120) = none ∧
    s.du.log.length < 96 ∧ s.psc.postings.length + s.psc.credits < 32 ∧
    ¬ ((s.withPsc { s.psc with credits := 32 }).psc.postings.length + 32 < 32) := by decide

theorem witness_ClosureLogRequests_full :
    let s := (onDay 130 ((List.range 96).map (fun k => closure (k + 1) 0))).withPsc storeBusy.psc
    SlotFor s .s1 ∧ LogOk s ∧ s.du.log.length = 96 ∧ (1 ≤ 97 ∧ s.du.day ≤ 97 + 95 ∧ 97 ≤ s.du.day) ∧
    s.du.log.find? (fun e => e.day == 97) = none ∧ furthest 97 s.du.log = some (closure 1 0) := by decide +kernel

theorem witness_LossesWeighAPass : (onDay 123 [closure 121 620]).du.day ≠ 0 ∧
    entryOf (onDay 123 [closure 121 620]).du.log 121 = some (closure 121 620) ∧
    entryOf (onDay 123 [closure 121 620]).du.log 122 = none := by decide

/-- R145, R148: a FLEX pass with 2 of 4 days used (one lost 620 of 1,000) in a window of 6 days from day 120 on: before its end
the two days owed count 1,000 each; after it each counts the past-unused credit. -/
theorem test_flex_weight :
    let e := worked .flex 6 4 500 0 1
    let r : PassRecord := { record 1 with firstDay := 120, daySet := some 3, price := 4000 }
    let during := computeRefund (onDay 125 [closure 121 620]) r e
    let ended := computeRefund (onDay 126 [closure 121 620]) r e
    (during.weight, during.used, during.unusedPast, during.unusedFuture) = (2620, 2, 0, 2) ∧
    (ended.weight, ended.used, ended.unusedPast, ended.unusedFuture) = (1620, 2, 2, 0) := by decide +kernel

theorem witness_RefundRequestsAreTaken : SlotFor storeBusy .s1 ∧ LookupsQueue storeBusy ∧ storeBusy.du.day ≠ 0 ∧
    storeBusy.ru.commit = none ∧ isMember 1 storeBusy = false ∧ postingGrants storeBusy = true ∧
    journalGrants storeBusy = true ∧ SlotFor State.reset .s1 ∧
    isMember 1 (storeBusy.withAe { members := [{ pass := 1, holder := .refund }] }) = true ∧
    (postingGrants ((storeBusy.withPsc { storeBusy.psc with credits := 32 }).withJnl { ready.jnl with credits := 1023 })
      = false) ∧
    (journalGrants ((storeBusy.withPsc { storeBusy.psc with credits := 32 }).withJnl { ready.jnl with credits := 1023 })
      = false) := by decide +kernel

theorem witness_RefundRequestsAreTaken_store :
    (LookupsQueue ready ∧ ready.psc.op = none ∧ (after (.refundCommit 1 1 50) ready).ru.commit.map (·.progress) =
      some .lookupInFlight) ∧
    (let s := inStore .faulted
     SlotFor s .s1 ∧ LookupsEnd s ∧ NoSeatWork s ∧ s.du.day ≠ 0 ∧ s.ru.commit = none ∧ isMember 1 s = false ∧
       postingGrants s = true ∧ journalGrants s = true) ∧
    (let s := ready.withPsc { ready.psc with credits := 32 }
     postingGrants s = false ∧ journalGrants s = true ∧ NoSeatWork s) := by decide +kernel

/-- A request in slot 1 whose lookup is in flight; the store holds pass 1. -/
def serving (i : Instr) : State :=
  let s := checking (some (record 1)) .offline
  (s.withPsc { s.psc with op := some { op := .lookupRead serviceLookup, issued := 0 }, credits := 1 }).setSlot .s1
    (some { request := i, progress := .lookup })

def committing : State :=
  let c : Commit := { slot := .s1, pass := 1, amount := 24500, progress := .lookupInFlight }
  ((serving (.refundCommit 7 1 24500)).withRu { commit := some c }).withJnl { ready.jnl with credits := 1 }

theorem witness_RefundCommitIsDecided : mainOn committing = true ∧
    committing.psc.op.map (·.op) = some (.lookupRead serviceLookup) ∧ committing.ru.commit.isSome = true ∧
    recordOf (forwarded committing 1) 1 = some (record 1) ∧ (record 1).status ≠ .refunded ∧
    refundable (record 1) (productOf committing 0) = true ∧ committing.sm.waiting = [] := by decide +kernel

/-- A request in slot 1 whose lookup is in flight; the store holds a record of pass 1, or none. -/
def servingWith (i : Instr) (r : Option PassRecord) : State :=
  let s := checking r .offline
  (s.withPsc { s.psc with op := some { op := .lookupRead serviceLookup, issued := 0 }, credits := 1 }).setSlot .s1
    (some { request := i, progress := .lookup })

theorem witness_RefundCommitIsDecided_refused :
    let i : Instr := .refundCommit 7 1 24500
    let c : Commit := { slot := .s1, pass := 1, amount := 24500, progress := .lookupInFlight }
    let with_ (r : Option PassRecord) : State := ((servingWith i r).withRu { commit := some c }).withJnl
      { ready.jnl with credits := 1 }
    let refunded : PassRecord := { record 1 with status := .refunded, refund := some 50 }
    let unsold : PassRecord := { record 1 with product := 1 }
    mainOn (with_ none) = true ∧ recordOf (forwarded (with_ none) 1) 1 = none ∧ (with_ none).sm.waiting = [] ∧
    recordOf (forwarded (with_ (some refunded)) 1) 1 = some refunded ∧
    recordOf (forwarded (with_ (some unsold)) 1) 1 = some unsold ∧ (productOf (with_ none) 1).kind = .unused ∧
    (∀ r ∈ [none, some refunded, some unsold], (after .lookupComplete (with_ r)).ru.commit = none ∧
      (after .lookupComplete (with_ r)).psc.credits = 0 ∧ (after .lookupComplete (with_ r)).jnl.credits = 0) := by
  decide +kernel

theorem witness_RefundQuoteIsDecided :
    let i : Instr := .refundQuote 7 1
    let refunded : PassRecord := { record 1 with status := .refunded, refund := some 50 }
    mainOn (serving i) = true ∧ recordOf (forwarded (serving i) 1) 1 = some (record 1) ∧
    recordOf (forwarded (servingWith i none) 1) 1 = none ∧
    recordOf (forwarded (servingWith i (some refunded)) 1) 1 = some refunded ∧
    (productOf (serving i) 0).kind = .consecutive ∧ (productOf (serving i) 0).refundable = true ∧
    (productOf (serving i) 1).kind = .unused := by decide +kernel

theorem witness_UpdateRequestsAreTaken : SlotFor storeBusy .s1 ∧ LookupsQueue storeBusy ∧ LookupsQueue ready ∧
    LookupsEnd (inStore .faulted) ∧ NoSeatWork (inStore .faulted) ∧ SlotFor (inStore .faulted) .s1 ∧
    postingGrants (inStore .faulted) = true ∧ rawAccepted rawZero = true ∧
    mergeAccepted rawMerge = true ∧ statusAccepted 1 2 1 2000000 = true ∧ statusAccepted 1 2 1 2000001 = false ∧ statusAccepted 1 0 1 0 = false ∧
    rawAccepted { rawZero with flags := 2, lastDay := 1, lastSec := 86399, lastBank := 1 } = true ∧
    rawAccepted { rawZero with flags := 2, lastDay := 1, lastSec := 86400, lastBank := 1 } = false ∧
    rawAccepted { rawZero with status := 2 } = false ∧ rawAccepted { rawZero with flags := 8, status := 2 } = true ∧
    mergeAccepted { rawMerge with days := [0] } = false ∧
    postingGrants storeBusy = true ∧ postingGrants (storeBusy.withPsc { storeBusy.psc with credits := 32 }) = false ∧
    isMember 1 (storeBusy.withAe { members := [{ pass := 1, holder := .refund }] }) = true := by decide +kernel

theorem witness_UpdatesAreDecided : mainOn (serving (.passRead 1 1)) = true ∧ serviceLookup.occupancy = true ∧
    (serving (.passRead 1 1)).sm.waiting = [] ∧
    recordOf (forwarded (serving (.passDrop 1 1)) 1) 1 = some (record 1) ∧
    recordOf (forwarded (withOp (.lookupRead serviceLookup)) 1) 1 = none ∧
    occupancy (forwarded (withOp (.lookupRead serviceLookup)) 1) = 0 ∧
    ({ serviceLookup with occupancy := false } : Lookup).requester = .service .s1 ∧
    (rawToRecord rawZero).status ≠ .refunded ∧ DaySet.offsets ((record 1).daySet.getD 0) = [] := by decide +kernel

theorem witness_UpdatesAreDecided_put :
    let used : PassRecord := { record 1 with daySet := some 1 }
    let i : Instr := .passPut 1 { rawZero with firstDay := 121 }
    recordOf (forwarded (servingWith i (some used)) 1) 1 = some used ∧ DaySet.offsets (used.daySet.getD 0) ≠ [] ∧
    (rawToRecord { rawZero with firstDay := 121 }).firstDay ≠ used.firstDay ∧
    (let s := servingWith i none
     let fill (k : Nat) (s : State) := s.withStore (s.store.writeBytes (slotAddress 1 k) (record (k + 2)).bytes)
     let t := fill 3 (fill 2 (fill 1 (fill 0 s)))
     recordOf (forwarded t 1) 1 = none ∧ occupancy (forwarded t 1) = 4) := by decide +kernel

/-- R157, R89: a PUT to REFUNDED with an amount of 25 and of 50 at a rounding unit of 50, and the same as an install. -/
theorem witness_UpdatesAreDecided_refunded :
    let raw (amount : Nat) : RawRecord := { rawZero with status := 2, flags := 8, refund := amount }
    let put (amount : Nat) (r : Option PassRecord) := servingWith (.passPut 1 (raw amount)) r
    let install (amount : Nat) : State := ((servingWith (.inquiryAnswer 1 5 0 (some (raw amount))) none).setSlot .s1
      (some { request := .inquiryAnswer 1 5 0 (some (raw amount)), progress := .install .late }))
    let answer (s : State) := (after .lookupComplete s).hlc.queue.getLast?
    let refunded : PassRecord := { record 1 with status := .refunded, refund := some 50 }
    (rawToRecord (raw 25)).status = .refunded ∧ (rawToRecord (raw 25)).refund = some 25 ∧
    (productOf (put 25 none) 0).unit = 50 ∧ (install 25).sm.waiting = [] ∧
    recordOf (forwarded (put 25 (some refunded)) 1) 1 = some refunded ∧
    answer (put 25 none) = some (.reply .s1 23 1 (.status .badField)) ∧
    answer (put 25 (some (record 1))) = some (.reply .s1 23 1 (.status .badField)) ∧
    (after .lookupComplete (put 25 (some refunded))).psc.postings.length = 1 ∧
    (after .lookupComplete (put 50 none)).psc.postings.length = 1 ∧
    answer (install 25) = some (.reply .s1 20 1 (.answer .late (some .badField))) ∧
    answer (install 50) = some (.reply .s1 20 1 (.answer .late (some .ok))) := by decide +kernel

theorem witness_UpdatesAreDecided_merge :
    let m : RawMerge := { rawMerge with dayCount := 2, days := [119, 183] }
    let i : Instr := .passMerge 1 m
    mainOn (serving i) = true ∧ m.passId = serviceLookup.pass ∧ m.lastFlag = 0 ∧
    m.days.eraseDups.filter (fun d => (record 1).daySet.isSome && (record 1).firstDay ≤ d && d ≤ (record 1).firstDay + 63) =
      [183] ∧
    [119].eraseDups.filter (fun d => (record 1).daySet.isSome && (record 1).firstDay ≤ d && d ≤ (record 1).firstDay + 63) =
      [] ∧ recordOf (forwarded (servingWith i none) 1) 1 = none := by decide +kernel

theorem witness_UpdatesAreDecided_status :
    let i : Instr := .passStatus 1 1 2 1 38900
    let refunded : PassRecord := { record 1 with status := .refunded, refund := some 50 }
    mainOn (serving i) = true ∧ passStatusOf 2 = some .refunded ∧ passStatusOf 0 = some .active ∧
    recordOf (forwarded (servingWith i (some refunded)) 1) 1 = some refunded ∧ (record 1).price = 38900 ∧
    ¬ ((record 1).price < 38900) ∧ 38900 % (productOf (serving i) 0).unit = 0 ∧ (record 1).price < 38950 ∧
    38925 % (productOf (serving i) 0).unit ≠ 0 := by decide +kernel

theorem witness_PostingsOnRecords :
    let bk : Bucket := [record 1, record 0, record 0, record 0]
    (record 1).totalRides ≤ 65535 ∧ recordOf bk 1 = some (record 1) ∧ (Posting.refundMark 1 50).pass = some 1 ∧
    applyPosting bk false (.refundMark 1 50) = .write 0 { record 1 with status := .refunded, refund := some 50 } ∧
    (let twice (n : Nat) : PassRecord :=
       applyUsage (applyUsage { record 1 with totalRides := n } 121 ⟨121, 1⟩ 1 ⟨1, 1⟩) 121 ⟨121, 1⟩ 1 ⟨1, 1⟩
     65533 < 65534 ∧ (twice 65533).totalRides = 65535 ∧ (twice 65534).totalRides = 65535) := by
  decide +kernel

theorem witness_DenyListRequests : SlotFor ready .s1 ∧ SlotFor (ready.withLsu { deny := [10] }) .s1 ∧
    10 ∈ (ready.withLsu { deny := [10] }).lsu.deny ∧ 11 ∉ (ready.withLsu { deny := [10] }).lsu.deny ∧
    2048 ≤ (ready.withLsu { deny := List.replicate 2048 3 }).lsu.deny.length := by decide +kernel

theorem witness_RecordsTakeStampsAndPlaces :
    let last := ready.withJnl { ready.jnl with nextSeq := 4294967296 }
    ready.jnl.nextSeq ≤ 4294967295 ∧ 4294967295 < last.jnl.nextSeq ∧ last.sps.epoch < 65535 ∧ mainOn last = true ∧
    last.sps.writing = none ∧ last.sps.queued = [] ∧
    mainOn (last.withSps { last.sps with supply := .backup }) = false ∧
    (last.withSps { last.sps with epoch := 65535 }).sps.epoch = 65535 ∧
    ready.jnl.records.length + ready.jnl.credits < 1024 ∧
    ¬ ((ready.withJnl { ready.jnl with credits := 1023 }).jnl.records.length + 1023 < 1024) := by decide +kernel

theorem witness_JournalIsReadAndReleased : SlotFor ready .s1 ∧ ready.sm.waiting = [] ∧ ready.sps.epoch < 2 ∧
    1 ≤ ready.sps.epoch ∧ ready.jnl.records.length = 1 := by decide

theorem witness_CountsAreReadAndCleared : SlotFor ready .s1 ∧ laneNumber .lu6 = 6 ∧ laneNumber .lu1 = 1 := by decide

theorem witness_RaisingAClass :
    let noticeOf (c : EventClass) := ready.hlc.levels.getD c.code 7 ≠ 7 ∧ ready.hlc.levels.getD c.code 7 < ready.hlc.floor
    noticeOf .storeFault ∧ ¬ noticeOf .linkError ∧ ready.hlc.running = true ∧ ready.hlc.queue.tail = [] ∧
    (ready.withHlc { ready.hlc with running := false }).hlc.running = false ∧
    (ready.withQueue [.restarted .cold 1 coldFlags, .event .halt ⟨1, 1⟩ 1 0]).hlc.queue =
      .restarted .cold 1 coldFlags :: ([] ++ .event .halt ⟨1, 1⟩ 1 0 :: []) := by decide +kernel

theorem witness_LinkErrorsAreCounted : mainOn ready = true ∧ ready.hlc.running = true ∧ ready.hlc.receiver = .hunt ∧
    (ready.withHlc { ready.hlc with receiver := .skip }).hlc.receiver = .skip ∧
    (ready.withHlc { ready.hlc with receiver := .frame [0, 0] }).hlc.receiver = .frame [0, 0] ∧
    (0 : Nat) ≠ crc (leBytes 2 0 ++ leBytes 1 1 ++ leBytes 1 9 ++ []) ∧ 240 < 241 ∧ 65535 < 65536 ∧
    0 < 6 ∧ 6 < ([] : List Byte).length + 7 := by decide +kernel

theorem witness_FramesAreReceived : ([] : List Byte).length ≤ 240 ∧ 0 < 1 ∧ 6 < identFrame.length ∧
    (List.replicate 240 (0 : Byte)).length = 240 ∧ (3 : Nat) < 256 ∧ 256 ^ 8 - 1 < 256 ^ 8 ∧ 240 < 241 ∧
    (194 : Byte) ≠ 195 := by decide +kernel

/-- All four slots occupied. -/
def full : State :=
  let x : Option Slot := some { request := .status 0, progress := .replied }
  ready.withHlc { ready.hlc with slots := { s1 := x, s2 := x, s3 := x, s4 := x } }

theorem witness_RequestsAreTurnedAway : hostHears full = true ∧ freeSlot full = none ∧
    (full.hlc.queue.filter OutFrame.isImmediate).length < 4 ∧ isRequest (.denyClear 1) = true ∧
    (let s := full.withQueue (List.replicate 4 (.immediate 129 0 .busy))
     ¬ ((s.hlc.queue.filter OutFrame.isImmediate).length < 4) ∧ hostHears s = true ∧ freeSlot s = none ∧
       ((after (.denyClear 1) s).hlc.queue.filter OutFrame.isImmediate).length = 4 ∧
       ((after (.dispatchRefusal 35 1 []) s).hlc.queue.filter OutFrame.isImmediate).length = 4 ∧
       (after (.dispatchRefusal 2 1 [0]) s).hlc.errors = 1) := by decide +kernel

/-- R210: a BANK_CONFIG with the timer period marked has a body of 4 bytes. -/
theorem witness_RequestsAreTurnedAway_bank : hostHears ready = true ∧ hostHears full = true ∧
    (after (.dispatchRefusal 6 1 [16, 0, 80]) ready).hlc.queue.getLast? = some (.immediate 134 1 .badLength) ∧
    (after (.dispatchRefusal 6 1 [16, 0, 80, 0, 0]) ready).hlc.queue.getLast? = some (.immediate 134 1 .badLength) ∧
    (after (.dispatchRefusal 6 1 [16, 0, 80, 0]) full).hlc.queue.getLast? = some (.immediate 134 1 .busy) := by decide +kernel

def leaving (i : Instr) : State :=
  (ready.withQueue [.reply .s1 (requestKindTag i).1 (requestKindTag i).2 (.status .ok)]).setSlot .s1
    (some { request := i, progress := .replied })

theorem witness_FramesLeaveTheQueue : mainOn ready = true ∧ ready.hlc.running = true ∧
    ready.hlc.queue = .restarted .cold 1 coldFlags :: [] ∧
    (leaving (.denyClear 3)).hlc.queue = .reply .s1 30 3 (.status .ok) :: [] ∧
    (leaving (.restart 3)).hlc.slots.get .s1 = some { request := .restart 3, progress := .replied } := by decide +kernel

/-- R28, R205: RESTART while a lane is in PASSING: its record with POWER_CUT, its USAGE posting, and the SUPPLY record of the restart. -/
theorem witness_FramesLeaveTheQueue_restart :
    let s := (inPassage.withQueue (leaving (.restart 3)).hlc.queue).withHlc
      { inPassage.hlc with queue := (leaving (.restart 3)).hlc.queue, slots := (leaving (.restart 3)).hlc.slots }
    let t := after .frameSent s
    mainOn s = true ∧ s.hlc.running = true ∧ s.hlc.slots.get .s1 = some { request := .restart 3, progress := .replied } ∧
      s.cut.map (·.1) = [.lu1] ∧ (t.lane .lu1).state = .idle ∧ t.psc.postings.length = 1 ∧ t.jnl.day.passages = 1 ∧
      t.jnl.records.drop s.jnl.records.length = [s.cutRecord (.lu1, { window := 1, day := 121, postingCredit := true },
        .storeBacked, { rotationSeen := false, breaks := 1, first := some 200, last := some 200, clearAt := some 300
                        entered := 0 }) ⟨1, 2⟩,
        { stamp := ⟨1, 3⟩, time := ⟨121, 40000⟩, body := .supply (.running .message) }] := by decide +kernel

theorem witness_PartIsIdentified : SlotFor State.reset .s1 ∧ State.reset.sps.straps.rate = 0 ∧
    State.reset.jnl.nextSeq ≤ 4294967295 ∧ State.reset.sps.epoch < 65535 ∧
    SlotFor (ready.withJnl { ready.jnl with nextSeq := 4294967296 }) .s1 ∧ SlotNo.s2 ≠ .s1 := by decide

theorem witness_FlagsAndLevelsByRequest : SlotFor ready .s1 ∧ (∃ p ∈ [(14, 0)], 14 ≤ p.1) ∧
    (∀ p ∈ [(13, 9), (13, 2)], p.1 < 14) := by decide

theorem witness_ProductEntriesArePutAndRead : SlotFor ready .s1 ∧ rawProduct.kind = 1 ∧
    (1 ≤ rawProduct.span ∧ rawProduct.span ≤ 30 ∧ rawProduct.entitled = 0) ∧ rawProduct.unit ∈ [1, 2, 5, 10, 20, 50, 100] ∧
    ({ rawProduct with kind := 0 } : RawProduct).kind = 0 ∧ ¬ (1 ≤ ({ rawProduct with span := 0 } : RawProduct).span) := by
  decide

theorem witness_BankSettingsAreSet : SlotFor ready .s1 ∧ ready.sps.bank.source = .pulse ∧ ready.sm.halt = none ∧
    (patchBank { source := some 1 } ready.sps.bank).isSome = true ∧
    (let s := ready.withSps { ready.sps with bank := { ready.sps.bank with source := .timer } }
     SlotFor s .s1 ∧ s.du.sched = .isOpen ∧ (after (.bankConfig 1 { source := some 0 }) s).sm.reference = some ⟨121, 40000⟩) ∧
    (patchBank { filter := some 3 } ready.sps.bank).isSome = true ∧ ready.sps.bank.filter.code = 2 ∧
    (patchBank { bankId := some 0 } ready.sps.bank).isSome = false ∧
    (let s := (ready.withSm { ready.sm with halt := some ⟨121, 1⟩ }).withDu { ready.du with halt := some ⟨121, 1⟩ }
     SlotFor s .s1 ∧ recordFree s = true ∧ s.jnl.nextSeq ≤ 4294967295) := by decide +kernel

def saving (job : SettingsJob) (repeated : Bool) : State :=
  let i : SettingsImage := { layout := 1, saveCount := 2, content := defaultContent, checkOk := true }
  let w : SettingsWrite := { job := job, copy := .b, image := i, repeated := repeated }
  (ready.setSlot .s1 (some { request := .settingsSave 1, progress := .saving })).withSps
    { ready.sps with writing := some w }

theorem witness_SettingsAreSaved : SlotFor ready .s1 ∧ ready.sps.writing = none ∧ ready.sps.queued = [] ∧
    ready.sps.newer = some .a ∧ (ready.sps.copy .a).saveCount < 4294967295 ∧
    SlotFor (saving (.full .s1 defaultContent) false) .s2 ∧ fullSaving (saving (.full .s1 defaultContent) false) = true ∧
    mainOn (saving .epoch true) = true ∧ (saving .epoch true).sps.queued = [] ∧
    ((saving (.full .s1 defaultContent) true).hlc.slots.get .s1).isSome = true := by decide +kernel

theorem witness_SupplyLossStopsTheMainDomain : mainOn ready = true ∧
    (∀ n ∈ allLanes, (ready.lane n).state ≠ .passing ∧ (ready.lane n).state ≠ .granted) ∧ ready.sm.halt = none ∧
    ready.jnl.nextSeq ≤ 4294967295 ∧ recordFree ready = true ∧ storeBusy.psc.op.map (·.op) = some .postingRead ∧
    (ready.withSps { ready.sps with supply := .backup }).sps.supply = .backup := by decide +kernel

/-- R205: the supply is lost while RESET is held low, with a free position of the journal and without one. -/
theorem witness_SupplyLossStopsTheMainDomain_held :
    let s := after .resetAssert ready
    let full := s.withJnl { s.jnl with credits := 1023 }
    s.sps.supply = .main ∧ s.sps.resetHeld = true ∧ s.sps.retainedLost = false ∧ s.hlc.running = false ∧
      recordFree s = true ∧ (after .supplyLoss s).sps.supply = .backup ∧ (after .supplyLoss s).jnl.records.length = 2 ∧
      recordFree full = false ∧ (after .supplyLoss full).jnl.cumulative.dropped = 1 := by decide +kernel

/-- A lane in its passage and one with a grant, a declared HALT, a counted window, and EVENT notices in the queue. -/
def busyPart : State :=
  let s := (inPassage.setLane .lu2 { granted with grant := some { window := 1, day := 121, postingCredit := true } }).withSm
    { ready.sm with window := some window, halt := some ⟨121, 39990⟩ }
  let s := s.withDu { s.du with halt := some ⟨121, 39990⟩ }
  ((s.withJnl { s.jnl with credits := 2 }).withPsc { s.psc with credits := 2 }).withQueue
    [.restarted .cold 1 coldFlags, .event .halt ⟨121, 40000⟩ 1 0]

theorem witness_SupplyLossStopsTheMainDomain_work :
    let t := after .supplyLoss busyPart
    mainOn busyPart = true ∧ busyPart.cut.map (·.1) = [.lu1] ∧ busyPart.cut.length ≤ busyPart.jnl.credits ∧
    busyPart.jnl.records.length + busyPart.jnl.credits + 2 ≤ 1024 ∧
    busyPart.jnl.nextSeq + busyPart.jnl.credits + 2 ≤ 4294967296 ∧
    t.jnl.records.tail = [busyPart.cutRecord (.lu1, { window := 1, day := 121, postingCredit := true }, .storeBacked,
        { rotationSeen := false, breaks := 1, first := some 200, last := some 200, clearAt := some 300, entered := 0 })
        ⟨1, 2⟩,
      { stamp := ⟨1, 3⟩, time := ⟨121, 40000⟩, body := .stop ⟨121, 39990⟩ ⟨121, 40000⟩ .halt },
      { stamp := ⟨1, 4⟩, time := ⟨121, 40000⟩, body := .supply .backupEntered }] ∧
    t.psc.postings = [.usage 500123 121 ⟨121, 40000⟩ 1 ⟨1, 2⟩] ∧ t.jnl.credits = 0 ∧ t.psc.credits = 0 ∧
    t.hlc.owed.getD EventClass.halt.code false = true ∧ t.jnl.day.windows = 1 ∧
    (after .resetAssert busyPart).jnl.records.length = 2 ∧
    (withOp (.closureWrite (closure 121 620))).psc.op.isSome = true ∧ mainOn (withOp (.closureWrite (closure 121 620))) = true ∧
    (after .supplyLoss (withOp .postingRead)).psc.uncertain = true ∧
    (after .supplyLoss (withOp (.mountClosure 3))).psc.uncertain = false := by decide +kernel

/-- R200, R128, R136: with HALT and STORE_FAULT owed, and a halt and the backup stop in force. -/
theorem witness_RestartKeepsTheRetainedDomain_owed :
    let lost := after .supplyLoss ready
    let s := (lost.withDu { lost.du with halt := some ⟨121, 1⟩, backup := some ⟨121, 2⟩ }).withHlc { lost.hlc with
      owed := (Vector.replicate 14 false |>.setIfInBounds EventClass.halt.code true).setIfInBounds
        EventClass.storeFault.code true }
    let t := after .powerReturn s
    let n := s.jnl.records.length
    s.sps.supply = .backup ∧ s.jnl.nextSeq + 3 ≤ 4294967296 ∧ n + 3 < 896 ∧
    (t.jnl.records.drop n).map (·.body) = [.stop ⟨121, 1⟩ ⟨121, 40000⟩ .halt, .stop ⟨121, 2⟩ ⟨121, 40000⟩ .power,
      .supply (.running .powerReturn)] ∧
    eventClasses t.hlc.queue = allClasses.filter (fun c => c == .halt || c == .storeFault) ∧ t.hlc.queue.length = 3 := by
  decide +kernel

theorem witness_RestartKeepsTheRetainedDomain :
    let lost := after .supplyLoss ready
    let held := after .resetAssert ready
    lost.sps.retainedLost = false ∧ lost.sps.supply = .backup ∧ held.sps.supply = .main ∧ held.sps.resetHeld = true ∧
    laneNumber .lu6 ≤ fittedLanes held.pins.straps.lanes ∧
    held.jnl.nextSeq ≤ 4294967295 ∧ held.jnl.records.length < 1024 ∧ held.du.halt = none ∧ held.du.backup = none := by
  decide +kernel

theorem witness_ColdStartLoadsTheSettings :
    let lost := after .retainedSupplyLoss (after .supplyLoss ready)
    lost.sps.retainedLost = true ∧ lost.sps.newer = some .a ∧ (lost.sps.copy .a).content.epoch < 65535 ∧
    (lost.withSps { lost.sps with copyA := SettingsImage.blank }).sps.newer = none := by decide +kernel

theorem witness_StepRunsTheFrontCommand : (ready.withPending [.chairPulse 1 16]).pending = .chairPulse 1 16 :: [] ∧
    ready.pending = [] := by decide

theorem witness_CommandsWithoutTheMainDomain : mainOn (after .supplyLoss ready) = false ∧
    actsWithoutMain (.entryBeamBreak .lu1 0 16) = false := by decide +kernel

theorem witness_EveryStepKeepsTheStoreForm : StoreOk ready ∧ ∃ t, step ready = .next t := ⟨by decide, _, rfl⟩

theorem witness_EveryStepKeepsStampsRising : StampsRise ready ∧ ∃ t, step ready = .next t := ⟨by decide, _, rfl⟩

theorem witness_EveryStepKeepsTheBounds : DenyListOk ready ∧ MembersDistinct ready ∧ DaySecondOk ready ∧
    LogOk ready ∧ SpansOk ready ∧ ready.sm.window = none ∧ mainOn ready = true ∧ ∃ t, step ready = .next t :=
  ⟨by decide, by decide, by decide, by decide, by decide, by decide, by decide, _, rfl⟩

/-- A commit in flight, a lane in its passage and a lane that waits. -/
def holding : State :=
  let s := ((committing.setLane .lu1 passing).setLane .lu2 { inState .waiting with admission := some .storeBacked })
  ((s.withPsc { s.psc with credits := 2 }).withJnl { s.jnl with credits := 2 }).withSm
    { s.sm with waiting := [wait .lu2] }

theorem witness_EveryStepKeepsTheBounds_credits : CreditsOk holding ∧ holding.postingHolders = 2 ∧
    holding.journalHolders = 2 ∧ InquiryOk (listed true) ∧ ∃ t, step holding = .next t :=
  ⟨⟨by decide +kernel, by decide +kernel, by decide +kernel, by decide +kernel,
    by intro n g; cases n <;> intro h <;> cases h <;> decide,
    by decide +kernel, by decide +kernel, by decide +kernel,
    by intro k hk tag pass amount p h; cases k <;> first | rfl | cases h⟩,
   by decide +kernel, by decide +kernel, by decide +kernel, _, rfl⟩

end Sys2Proof.Tests
end

section
/-! PROOFS. LINK_STATE and the inquiry work that an OFFLINE settles (R81, R91). -/

namespace Sys2Proof.InquiryProofs
open Sys2Proof Sys2Proof.Machine Sys2Proof.Config

/-! ### The reply of a request in its slot -/

/-- The reply of a request whose work has changed other parts of the state than the host link. -/
theorem reply_of_hlc_holding {s : State} {h : HlcState} {i : Instr} {k : SlotNo} {p : Progress}
    (hs : s.hlc = h.holding i k p) (r : Reply) : reply k r s = s.withHlc (h.answered i k r) := by
  have held : s = s.withHlc (h.holding i k p) := by rw [← hs]; rfl
  calc reply k r s = reply k r (s.withHlc (h.holding i k p)) := by rw [← held]
    _ = (s.withHlc (h.holding i k p)).withHlc (h.answered i k r) := reply_holding s h i k p r
    _ = s.withHlc (h.answered i k r) := rfl

/-! ### Denials by the offline policy -/

theorem deny_eq (n : LaneNo) (r : Reason) (s : State) : deny n r s =
    ((s.setLane n ((s.lane n).shown (s.ms + s.sps.bank.denyDisplay * 100))).withJnl (s.jnl.denied n r)).withAe
      (s.ae.without (.lane n (s.lane n).presentation)) := rfl

theorem deny_withIqu (n : LaneNo) (r : Reason) (s : State) (q : IquState) :
    deny n r (s.withIqu q) = (deny n r s).withIqu q := rfl

theorem deny_withHlc (n : LaneNo) (r : Reason) (s : State) (h : HlcState) :
    deny n r (s.withHlc h) = (deny n r s).withHlc h := rfl

theorem deny_lane_other {n m : LaneNo} (h : m ≠ n) (r : Reason) (s : State) : (deny n r s).lane m = s.lane m := by
  rw [deny_eq]
  exact lane_setLane_other s n m _ h

theorem takesOutcome_of_lane {s t : State} {n : LaneNo} (h : t.lane n = s.lane n) (presentation : Nat) :
    takesOutcome t n presentation = takesOutcome s n presentation := by
  simp [takesOutcome, h]

/-- The offline policy reads the settings, the clock and the provisional list alone (R92, R93). -/
theorem policyDenies_congr {s t : State} (hsps : t.sps = s.sps) (hdu : t.du = s.du)
    (hprov : t.iqu.provisional = s.iqu.provisional) (image : List Byte) (origin : Origin) :
    policyDenies t image origin = policyDenies s image origin := by
  have products : productOf t = productOf s := by funext code; rw [productOf, hsps]; rfl
  have recent : provisionalDenies t = provisionalDenies s := by
    funext pass
    rw [provisionalDenies, hprov, hsps, State.now, hdu]
    rfl
  unfold policyDenies
  rw [products, recent, hsps, hdu]

theorem offlinePolicy_of_denies {s : State} {n : LaneNo} {presentation : Nat} {image : List Byte} {origin : Origin}
    {r : Reason} (takes : takesOutcome s n presentation = true) (denies : policyDenies s image origin = some r) :
    offlinePolicy n presentation image origin s = deny n r s := by
  simp [offlinePolicy, handDenial, denies, takes]

theorem policyForPending_of_absent {p : PendingInquiry} (absent : p.lanePresent = false) (s : State) :
    policyForPending p s = s := by
  simp [policyForPending, absent]

theorem policyForPending_of_denies {s : State} {p : PendingInquiry} {r : Reason} (present : p.lanePresent = true)
    (takes : takesOutcome s p.lane p.presentation = true) (denies : policyDenies s p.image .miss = some r) :
    policyForPending p s = deny p.lane r s := by
  simp [policyForPending, present, offlinePolicy_of_denies takes denies]

theorem policyForWaiting_single_of_denies {s : State} {e : InquiryWait} {r : Reason}
    (takes : takesOutcome s e.lane e.presentation = true) (denies : policyDenies s e.image .miss = some r) :
    policyForWaiting [e] s = deny e.lane r s := by
  simp [policyForWaiting, offlinePolicy_of_denies takes denies]

/-! ### The settling of the inquiry work (R91) -/

theorem settleInquiries_of_no_pending {s : State} (h : s.iqu.pending = none) :
    settleInquiries s =
      policyForWaiting s.iqu.waiting (s.withIqu { s.iqu with link := .offline, waiting := [] }) := by
  simp [settleInquiries, h, State.withIqu]

/-- The inquiry unit when an OFFLINE has ended the pending inquiry and not yet emptied the wait list. -/
def pendingEnded (p : PendingInquiry) (q : IquState) : IquState :=
  { q with link := .offline, pending := none, lastEnded := some (p.number, p.pass) }

theorem settleInquiries_of_pending {s t : State} {p : PendingInquiry} (h : s.iqu.pending = some p)
    (decided : policyForPending p (s.withIqu (pendingEnded p s.iqu)) = t) :
    settleInquiries s = policyForWaiting t.iqu.waiting (t.withIqu { t.iqu with waiting := [] }) := by
  subst decided
  simp only [settleInquiries, withIqu_iqu, h]
  rfl

theorem withIqu_emptied {t : State} (h : t.iqu.waiting = []) : t.withIqu { t.iqu with waiting := [] } = t := by
  rw [← h]
  rfl

theorem settleInquiries_of_pending_alone {s t : State} {p : PendingInquiry} (h : s.iqu.pending = some p)
    (decided : policyForPending p (s.withIqu (pendingEnded p s.iqu)) = t) (alone : t.iqu.waiting = []) :
    settleInquiries s = t := by
  rw [settleInquiries_of_pending h decided, alone, withIqu_emptied alone]
  rfl

/-- Two lanes are denied, that of the pending inquiry before the waiting one. -/
theorem settleInquiries_of_both_denied {s : State} {p : PendingInquiry} {e : InquiryWait} {first second : Reason}
    (hp : s.iqu.pending = some p) (hw : s.iqu.waiting = [e]) (present : p.lanePresent = true) (apart : p.lane ≠ e.lane)
    (takesP : takesOutcome s p.lane p.presentation = true) (takesE : takesOutcome s e.lane e.presentation = true)
    (deniesP : policyDenies s p.image .miss = some first) (deniesE : policyDenies s e.image .miss = some second) :
    settleInquiries s =
      deny e.lane second (deny p.lane first (s.withIqu { pendingEnded p s.iqu with waiting := [] })) := by
  have decided : policyForPending p (s.withIqu (pendingEnded p s.iqu)) =
      (deny p.lane first s).withIqu (pendingEnded p s.iqu) :=
    policyForPending_of_denies present takesP ((policyDenies_congr rfl rfl rfl _ _).trans deniesP)
  have waits : (pendingEnded p s.iqu).waiting = [e] := hw
  rw [settleInquiries_of_pending hp decided, withIqu_iqu, waits, deny_withIqu]
  refine policyForWaiting_single_of_denies (Eq.trans (takesOutcome_of_lane ?_ _) takesE)
    (Eq.trans (policyDenies_congr ?_ ?_ ?_ _ _) deniesE)
  · exact deny_lane_other apart.symm first s
  · simp
  · simp
  · rfl

/-! ### The request -/

section
variable {s : State} {k : SlotNo} (hk : SlotFor s k) (tag : Nat)
include hk

theorem exec_linkState_unnamed {link : Nat} (h : 2 ≤ link) : exec (.linkState tag link) s =
    .next (s.withHlc (s.hlc.answered (.linkState tag link) k (.status .badField))) := by
  obtain ⟨n, rfl⟩ := Nat.exists_eq_add_of_le' h
  calc exec (.linkState tag (n + 2)) s = execLinkState tag (n + 2) s := rfl
    _ = .next (refuse k .badField (s.withHlc (s.hlc.holding (.linkState tag (n + 2)) k .taken))) := by
      simp only [execLinkState, takeRequest_slot hk, linkStateOf]
    _ = _ := by rw [refuse_holding]

theorem exec_linkState_online : exec (.linkState tag 1) s =
    .next ((s.withHlc (s.hlc.answered (.linkState tag 1) k (.link .online))).withIqu { s.iqu with link := .online }) := by
  calc exec (.linkState tag 1) s = execLinkState tag 1 s := rfl
    _ = .next (reply k (.link .online) ((s.withHlc (s.hlc.holding (.linkState tag 1) k .taken)).withIqu
          { s.iqu with link := .online })) := by
      simp only [execLinkState, takeRequest_slot hk, linkStateOf]
      rfl
    _ = _ := by rw [reply_of_hlc_holding rfl]; rfl

theorem exec_linkState_stays_offline (h : s.iqu.link = .offline) : exec (.linkState tag 0) s =
    .next (s.withHlc (s.hlc.answered (.linkState tag 0) k (.link .offline))) := by
  calc exec (.linkState tag 0) s = execLinkState tag 0 s := rfl
    _ = .next (reply k (.link .offline) (s.withHlc (s.hlc.holding (.linkState tag 0) k .taken))) := by
      simp only [execLinkState, takeRequest_slot hk, linkStateOf, withHlc_iqu, h]
    _ = _ := by rw [reply_holding]

/-- An OFFLINE taken while ONLINE: its reply follows the settling, whatever that makes of the other parts. -/
theorem exec_linkState_settles (h : s.iqu.link = .online) {t : State}
    (settled : settleInquiries (s.withHlc (s.hlc.holding (.linkState tag 0) k .taken)) = t)
    (kept : t.hlc = s.hlc.holding (.linkState tag 0) k .taken) : exec (.linkState tag 0) s =
    .next (t.withHlc (s.hlc.answered (.linkState tag 0) k (.link .offline))) := by
  calc exec (.linkState tag 0) s = execLinkState tag 0 s := rfl
    _ = .next (reply k (.link .offline) t) := by
      simp only [execLinkState, takeRequest_slot hk, linkStateOf, withHlc_iqu, h, settled]
    _ = _ := by rw [reply_of_hlc_holding kept]

theorem exec_linkState_no_work (hp : s.iqu.pending = none) (hw : s.iqu.waiting = []) : exec (.linkState tag 0) s =
    .next ((s.withHlc (s.hlc.answered (.linkState tag 0) k (.link .offline))).withIqu
      { s.iqu with link := .offline }) := by
  cases hl : s.iqu.link with
  | offline =>
    rw [exec_linkState_stays_offline hk tag hl, ← hl]
    rfl
  | online =>
    have settled := settleInquiries_of_no_pending (s := s.withHlc (s.hlc.holding (.linkState tag 0) k .taken)) hp
    simp only [withHlc_iqu, hw, policyForWaiting] at settled
    rw [exec_linkState_settles hk tag hl settled rfl, ← hw]
    rfl

end

/-! ### An OFFLINE by the inquiry work in hand -/

section
variable {s : State} {k : SlotNo} (hk : SlotFor s k) (tag : Nat) (hl : s.iqu.link = .online)
include hk hl

theorem exec_linkState_pending_absent {p : PendingInquiry} (hp : s.iqu.pending = some p) (hw : s.iqu.waiting = [])
    (absent : p.lanePresent = false) : exec (.linkState tag 0) s =
    .next ((s.withHlc (s.hlc.answered (.linkState tag 0) k (.link .offline))).withIqu (pendingEnded p s.iqu)) :=
  exec_linkState_settles hk tag hl
    (settleInquiries_of_pending_alone hp (policyForPending_of_absent absent _) hw) rfl

theorem exec_linkState_pending_denied {p : PendingInquiry} {r : Reason} (hp : s.iqu.pending = some p)
    (hw : s.iqu.waiting = []) (present : p.lanePresent = true)
    (takes : takesOutcome s p.lane p.presentation = true) (denies : policyDenies s p.image .miss = some r) :
    exec (.linkState tag 0) s = .next (deny p.lane r
      ((s.withHlc (s.hlc.answered (.linkState tag 0) k (.link .offline))).withIqu (pendingEnded p s.iqu))) :=
  exec_linkState_settles hk tag hl
    (settleInquiries_of_pending_alone hp
      (policyForPending_of_denies present takes ((policyDenies_congr rfl rfl rfl _ _).trans denies)) hw) rfl

theorem exec_linkState_waiting_denied {e : InquiryWait} {r : Reason} (hp : s.iqu.pending = none)
    (hw : s.iqu.waiting = [e]) (takes : takesOutcome s e.lane e.presentation = true)
    (denies : policyDenies s e.image .miss = some r) :
    exec (.linkState tag 0) s = .next (deny e.lane r
      ((s.withHlc (s.hlc.answered (.linkState tag 0) k (.link .offline))).withIqu
        { s.iqu with link := .offline, waiting := [] })) := by
  have settled := settleInquiries_of_no_pending (s := s.withHlc (s.hlc.holding (.linkState tag 0) k .taken)) hp
  simp only [withHlc_iqu, hw] at settled
  exact exec_linkState_settles hk tag hl (settled.trans (policyForWaiting_single_of_denies takes
    ((policyDenies_congr rfl rfl rfl _ _).trans denies))) rfl

theorem exec_linkState_both_denied {p : PendingInquiry} {e : InquiryWait} {first second : Reason}
    (hp : s.iqu.pending = some p) (hw : s.iqu.waiting = [e]) (present : p.lanePresent = true) (apart : p.lane ≠ e.lane)
    (takesP : takesOutcome s p.lane p.presentation = true) (takesE : takesOutcome s e.lane e.presentation = true)
    (deniesP : policyDenies s p.image .miss = some first) (deniesE : policyDenies s e.image .miss = some second) :
    exec (.linkState tag 0) s = .next (deny e.lane second (deny p.lane first
      ((s.withHlc (s.hlc.answered (.linkState tag 0) k (.link .offline))).withIqu
        { pendingEnded p s.iqu with waiting := [] }))) := by
  have settled := settleInquiries_of_both_denied (s := s.withHlc (s.hlc.holding (.linkState tag 0) k .taken))
    hp hw present apart takesP takesE ((policyDenies_congr rfl rfl rfl _ _).trans deniesP)
    ((policyDenies_congr rfl rfl rfl _ _).trans deniesE)
  rw [exec_linkState_settles hk tag hl settled (by simp), ← deny_withHlc, ← deny_withHlc]
  rfl
end

/-- Settles O19: the clauses are the cases of the link value, the link state and the inquiry work in hand. -/
theorem linkStateIsSet : Obligations.LinkStateIsSet := by
  intro s k tag link hk
  refine ⟨exec_linkState_unnamed hk tag, ?online, ?unchanged, ?noWork, ?settles⟩
  case online => rintro rfl; exact exec_linkState_online hk tag
  case unchanged => rintro rfl; exact exec_linkState_stays_offline hk tag
  case noWork => rintro rfl; exact exec_linkState_no_work hk tag
  case settles =>
    rintro rfl hl
    refine ⟨fun p hp hw => ⟨exec_linkState_pending_absent hk tag hl hp hw,
      fun r present => exec_linkState_pending_denied hk tag hl hp hw present⟩,
      fun e r hp hw => exec_linkState_waiting_denied hk tag hl hp hw, ?both⟩
    intro p e first second hp present hw apart takesP takesE deniesP deniesE
    refine ⟨_, exec_linkState_both_denied hk tag hl hp hw present apart takesP takesE deniesP deniesE, ?frame, rfl,
      rfl, ?laneP, ?laneE, rfl⟩
    case frame => intro part hpart; cases part <;> first | rfl | exact absurd (by decide) hpart
    case laneP =>
      rw [deny_lane_other apart, deny_eq]
      exact lane_setLane_self _ _ _
    case laneE =>
      rw [deny_eq]
      refine (lane_setLane_self _ _ _).trans ?_
      rw [deny_lane_other apart.symm]
      rfl

end Sys2Proof.InquiryProofs
end

section
/-! PROOFS. The update requests, the install of an inquiry's record and PASS_READ, decided at their lookup's completion
(R89, R157, R160, R161, R163, R165 to R167). -/

namespace Sys2Proof.UpdateProofs
open Sys2Proof Sys2Proof.Machine Sys2Proof.Config

/-! ### What the decisions test -/

theorem offsets_eq_nil_iff (d : DaySet) : DaySet.offsets d = [] ↔ d = 0 := by
  constructor
  · intro h
    refine BitVec.eq_of_getLsbD_eq fun k hk => ?_
    have unused := List.filter_eq_nil_iff.mp h k (List.mem_range.mpr hk)
    simpa [DaySet.has] using unused
  · rintro rfl
    simp [DaySet.offsets, DaySet.has]

/-- R157: the first valid day is locked exactly where a day is used and the carried record would move it. -/
theorem firstDayLocked_iff (stored carried : PassRecord) : firstDayLocked stored carried = true ↔
    DaySet.offsets (stored.daySet.getD 0) ≠ [] ∧ carried.firstDay ≠ stored.firstDay := by
  rw [ne_eq, offsets_eq_nil_iff]
  cases h : stored.daySet <;> simp [firstDayLocked, h]

theorem wholeUnits_iff (s : State) (code : Nat) (amount : Option Nat) : wholeUnits s code amount = true ↔
    amount.getD 0 % (if (productOf s code).kind = .unused then 1 else (productOf s code).unit) = 0 := by
  simp [wholeUnits, unitOf]

/-! ### The credit and the reply of a decision -/

theorem giveBackPosting_of_none {s : State} (h : s.sm.waiting = []) : giveBackPosting s = dropPostingCredit s := by
  have none : (dropPostingCredit s).sm.waiting = [] := by simpa using h
  rw [giveBackPosting, ← granting_eq, granting_of_none none]

theorem enqueue_postings (p : Posting) (s : State) : (enqueue p s).psc.postings = s.psc.postings ++ [p] := by
  unfold enqueue
  simp only []
  split <;> simp

/-- The frame of the reply to a request (R192). -/
def replyFrame (k : SlotNo) (i : Instr) (r : Reply) : OutFrame := .reply k (requestKindTag i).1 (requestKindTag i).2 r

section
variable {s : State} {k : SlotNo} {i : Instr} {p : Progress}

theorem reply_queue (slot : s.hlc.slots.get k = some { request := i, progress := p }) (r : Reply) :
    (reply k r s).hlc.queue = s.hlc.queue ++ [replyFrame k i r] := by
  simp [reply, slot, sendFrame, State.withQueue, replyFrame]

/-- The posting credit of an update is used by its postings, or has been given back where it posts nothing (R155). -/
def Posts (s t : State) (ps : List Posting) : Prop :=
  t.psc.credits = s.psc.credits - 1 ∧ t.psc.postings = s.psc.postings ++ ps

/-- The reply of the request in a slot has joined the outgoing queue (R192). -/
def Answers (s t : State) (k : SlotNo) (i : Instr) (r : Reply) : Prop := t.hlc.queue = s.hlc.queue ++ [replyFrame k i r]

/-- An update is decided in `s` with `t` as the outcome. -/
def Decides (s t : State) (k : SlotNo) (i : Instr) (ps : List Posting) (r : Reply) : Prop :=
  Posts s t ps ∧ Answers s t k i r

theorem decides_without_posting (slot : s.hlc.slots.get k = some { request := i, progress := p })
    (hw : s.sm.waiting = []) (r : Reply) : Decides s (reply k r (giveBackPosting s)) k i [] r := by
  rw [giveBackPosting_of_none hw]
  refine ⟨⟨?credits, ?postings⟩, ?queue⟩
  case credits => simp [dropPostingCredit]
  case postings => simp
  case queue => exact reply_queue (s := dropPostingCredit s) slot r

theorem decides_with_posting (slot : s.hlc.slots.get k = some { request := i, progress := p }) (q : Posting)
    (r : Reply) : Decides s (reply k r (enqueueReserved q s)) k i [q] r := by
  refine ⟨⟨?credits, ?postings⟩, ?queue⟩
  case credits => simp [enqueueReserved, dropPostingCredit]
  case postings => simp [enqueueReserved, enqueue_postings]
  case queue =>
    have kept : (enqueueReserved q s).hlc = s.hlc := by simp
    rw [Answers, reply_queue (kept ▸ slot) r, kept]

end

/-! ### The completion of a SERVICE lookup -/

/-- The state in which the result of a completed bucket read is handed over: the port free, the read counted (R69, R79). -/
def readEnded (l : Lookup) (s : State) : State :=
  countCumulative (fun c => { c with
    lookups := addSat c.lookups 1
    forwardingHits := addSat c.forwardingHits (if forwardingHit s l.pass then 1 else 0) }) (endOp s)

theorem completeLookup_eq (l : Lookup) (s : State) :
    completeLookup l s = handOver l.requester (lookupResult s l) (readEnded l s) := rfl

@[simp] theorem readEnded_frame (l : Lookup) (s : State) :
    (readEnded l s).lanes = s.lanes ∧ (readEnded l s).ae = s.ae ∧ (readEnded l s).store = s.store ∧
      (readEnded l s).sm = s.sm ∧ (readEnded l s).sps = s.sps ∧ (readEnded l s).hlc = s.hlc ∧
      (readEnded l s).psc.postings = s.psc.postings ∧ (readEnded l s).psc.credits = s.psc.credits := by
  simp [readEnded]

theorem readEnded_slot {s : State} {k : SlotNo} {x : Slot} (slot : s.hlc.slots.get k = some x) (l : Lookup) :
    (readEnded l s).hlc.slots.get k = some x := by
  simpa using slot

theorem readEnded_waiting {s : State} (hw : s.sm.waiting = []) (l : Lookup) : (readEnded l s).sm.waiting = [] := by
  simpa using hw

theorem exec_lookupComplete_service {s : State} {x : IssuedOp} {l : Lookup} {k : SlotNo} (on : mainOn s = true)
    (port : s.psc.op = some x) (read : x.op = .lookupRead l) (service : l.requester = .service k) :
    exec .lookupComplete s = .next (selectNext (serviceResult k (lookupResult s l) (readEnded l s))) := by
  obtain ⟨op, issued⟩ := x
  cases read
  calc exec .lookupComplete s = execLookupComplete s := rfl
    _ = .next (selectNext (completeLookup l s)) := by simp only [execLookupComplete, on, if_true, port]
    _ = _ := by rw [completeLookup_eq, service]; rfl

theorem Posts.completed {s t : State} {l : Lookup} {ps : List Posting} (h : Posts (readEnded l s) t ps) :
    Posts s (selectNext t) ps := by
  simpa [Posts] using h

theorem Answers.completed {s t : State} {l : Lookup} {k : SlotNo} {i : Instr} {r : Reply}
    (h : Answers (readEnded l s) t k i r) : Answers s (selectNext t) k i r := by
  simpa [Answers] using h

/-- What a decision leaves after a completed lookup, in the terms of the state before it. -/
theorem Decides.completed {s t : State} {l : Lookup} {k : SlotNo} {i : Instr} {ps : List Posting} {r : Reply}
    (d : Decides (readEnded l s) t k i ps r) : Decides s (selectNext t) k i ps r :=
  ⟨d.1.completed, d.2.completed⟩

/-! ### The decisions -/

section
variable {s : State} {k : SlotNo} {i : Instr} {p : Progress}
  (slot : s.hlc.slots.get k = some { request := i, progress := p }) (hw : s.sm.waiting = [])
include slot hw

theorem decideDrop_decides (pass : Nat) (found : Option PassRecord) (occupied : Nat) :
    Decides s (decideDrop k pass (.read found occupied) s) k i (if found.isSome then [.drop pass] else [])
      (.status (if found.isSome then .ok else .notFound)) := by
  cases found with
  | none => exact decides_without_posting slot hw _
  | some r => exact decides_with_posting slot _ _

theorem decideMerge_decides_absent (m : RawMerge) (occupied : Nat) :
    Decides s (decideMerge k m (.read none occupied) s) k i [] (.status .notFound) :=
  decides_without_posting slot hw _

theorem decideMerge_decides_nothing {m : RawMerge} {r : PassRecord} (occupied : Nat)
    (taken : m.days.eraseDups.filter (dayTaken r) = []) (last : mergePassage m = none) :
    Decides s (decideMerge k m (.read (some r) occupied) s) k i []
      (.merged 0 (m.days.eraseDups.length - (m.days.eraseDups.filter (dayTaken r)).length) r) := by
  simpa [decideMerge, taken, last] using decides_without_posting slot hw (.merged 0 m.days.eraseDups.length r)

omit hw in
theorem decideMerge_decides_posting {m : RawMerge} {r : PassRecord} (occupied : Nat)
    (hasWork : m.days.eraseDups.filter (dayTaken r) ≠ [] ∨ (mergePassage m).isSome = true) :
    let taken := m.days.eraseDups.filter (dayTaken r)
    Decides s (decideMerge k m (.read (some r) occupied) s) k i [.merge m.passId taken (mergePassage m)]
      (.merged taken.length (m.days.eraseDups.length - taken.length) (applyMerge r taken (mergePassage m))) := by
  have posted : ¬ ((m.days.eraseDups.filter (dayTaken r)).isEmpty ∧ (mergePassage m).isNone) := by
    rintro ⟨noDay, noPassage⟩
    rw [List.isEmpty_iff] at noDay
    rw [Option.isNone_iff_eq_none] at noPassage
    rcases hasWork with day | passage
    · exact day noDay
    · rw [noPassage] at passage
      cases passage
  simp only [decideMerge, if_neg posted]
  exact decides_with_posting slot _ _

theorem decideStatus_decides_absent (pass : Nat) (target : PassStatus) (given : Option Nat) (occupied : Nat) :
    Decides s (decideStatus k pass target given (.read none occupied) s) k i [] (.status .notFound) :=
  decides_without_posting slot hw _

theorem decideStatus_decides_refunded (pass : Nat) (target : PassStatus) (given : Option Nat) (occupied : Nat)
    {r : PassRecord} {a : Nat} (refunded : r.status = .refunded) (amount : r.refund = some a) :
    Decides s (decideStatus k pass target given (.read (some r) occupied) s) k i []
      (.passStatus .refunded (some a)) := by
  simp only [decideStatus, if_pos refunded, storedRefund, amount, Option.getD_some]
  exact decides_without_posting slot hw _

theorem decideStatus_decides_same (pass : Nat) {target : PassStatus} (given : Option Nat) (occupied : Nat)
    {r : PassRecord} (unrefunded : r.status ≠ .refunded) (same : r.status = target) :
    Decides s (decideStatus k pass target given (.read (some r) occupied) s) k i [] (.passStatus target none) := by
  simp only [decideStatus, if_neg unrefunded, if_pos same]
  exact decides_without_posting slot hw _

theorem decideStatus_decides_bad (pass : Nat) {target : PassStatus} {given : Option Nat} (occupied : Nat)
    {r : PassRecord} (unrefunded : r.status ≠ .refunded) (other : r.status ≠ target)
    (bad : target = .refunded ∧ (r.price < given.getD 0 ∨ ¬ wholeUnits s r.product given)) :
    Decides s (decideStatus k pass target given (.read (some r) occupied) s) k i [] (.status .badField) := by
  simp only [decideStatus, if_neg unrefunded, if_neg other, if_pos bad]
  exact decides_without_posting slot hw _

omit hw in
theorem decideStatus_decides_posting (pass : Nat) {target : PassStatus} {given : Option Nat} (occupied : Nat)
    {r : PassRecord} (unrefunded : r.status ≠ .refunded) (other : r.status ≠ target)
    (good : ¬ (target = .refunded ∧ (r.price < given.getD 0 ∨ ¬ wholeUnits s r.product given))) :
    Decides s (decideStatus k pass target given (.read (some r) occupied) s) k i [.status pass target given]
      (.passStatus target given) := by
  simp only [decideStatus, if_neg unrefunded, if_neg other, if_neg good]
  exact decides_with_posting slot _ _

end

/-! ### PASS_PUT and the install, which differ in their replies alone (R157, R167) -/

/-- The replies of a PUT or of an install, one for each decision of R157. -/
structure PutReplies where
  inserted : PassRecord → Reply
  merged : PassRecord → Reply
  locked : PassRecord → Reply
  full : Reply
  bad : Reply

/-- A decision of R157 on a carried record carried out, with the replies of its request. -/
def putOutcome (k : SlotNo) (c : PassRecord) (a : PutReplies) (d : PutDecision) (s : State) : State :=
  match d with
  | .insert r => reply k (a.inserted r) (enqueueReserved (.putInsert r) s)
  | .merge r => reply k (a.merged r) (enqueueReserved (.putMerge c) s)
  | .tableFull => reply k a.full (raise .storeFull (giveBackPosting s))
  | .locked r => reply k (a.locked r) (giveBackPosting s)
  | .badAmount => reply k a.bad (giveBackPosting s)

def passPutReplies (pass occupied : Nat) : PutReplies where
  inserted := .put .inserted
  merged := .put .merged
  locked := .locked
  full := .tableFull occupied (bucketOf pass).val
  bad := .status .badField

def installReplies (classified : Status) : PutReplies where
  inserted _ := .answer classified (some .ok)
  merged _ := .answer classified (some .ok)
  locked _ := .answer classified (some .firstDayLocked)
  full := .answer classified (some .tableFull)
  bad := .answer classified (some .badField)

theorem decidePassPut_eq (k : SlotNo) (raw : RawRecord) (found : Option PassRecord) (occupied : Nat) (s : State) :
    decidePassPut k raw (.read found occupied) s = putOutcome k (rawToRecord raw)
      (passPutReplies raw.passId occupied) (decidePut s (rawToRecord raw) found occupied) s := by
  simp only [decidePassPut, putOutcome]
  cases decidePut s (rawToRecord raw) found occupied <;> rfl

theorem decideInstall_eq (k : SlotNo) (classified : Status) (raw : RawRecord) (found : Option PassRecord)
    (occupied : Nat) (s : State) :
    decideInstall k classified raw (.read found occupied) s = putOutcome k (rawToRecord raw)
      (installReplies classified) (decidePut s (rawToRecord raw) found occupied) s := by
  simp only [decideInstall, putOutcome]
  cases decidePut s (rawToRecord raw) found occupied <;> rfl

/-- R157: the carried record makes its record REFUNDED with an amount that is not in whole rounding units. -/
def BrokenAmount (s : State) (c : PassRecord) : Prop :=
  c.status = .refunded ∧
    c.refund.getD 0 % (if (productOf s c.product).kind = .unused then 1 else (productOf s c.product).unit) ≠ 0

theorem brokenAmount_iff (s : State) (c : PassRecord) :
    BrokenAmount s c ↔ c.status = .refunded ∧ ¬ wholeUnits s c.product c.refund := by
  rw [wholeUnits_iff]
  rfl

section
variable {s : State} {c : PassRecord} {occupied : Nat}

theorem decidePut_full (full : 4 ≤ occupied) : decidePut s c none occupied = .tableFull := by
  simp [decidePut, full]

theorem decidePut_absent_bad (room : occupied < 4) (broken : BrokenAmount s c) :
    decidePut s c none occupied = .badAmount := by
  simp only [decidePut, if_neg (Nat.not_le.mpr room), if_pos ((brokenAmount_iff s c).mp broken)]

theorem decidePut_insert (room : occupied < 4) (whole : ¬ BrokenAmount s c) :
    decidePut s c none occupied = .insert (insertRecord s c) := by
  rw [brokenAmount_iff] at whole
  simp only [decidePut, if_neg (Nat.not_le.mpr room), if_neg whole]

variable {r : PassRecord}

theorem decidePut_locked (locked : firstDayLocked r c = true) : decidePut s c (some r) occupied = .locked r := by
  simp [decidePut, locked]

theorem decidePut_present_bad (free : ¬ firstDayLocked r c = true) (broken : BrokenAmount s c)
    (unrefunded : r.status ≠ .refunded) : decidePut s c (some r) occupied = .badAmount := by
  obtain ⟨refunded, amount⟩ := (brokenAmount_iff s c).mp broken
  simp only [decidePut, if_neg free, if_pos (And.intro refunded (And.intro unrefunded amount))]

theorem decidePut_merge (free : ¬ firstDayLocked r c = true) (passes : ¬ BrokenAmount s c ∨ r.status = .refunded) :
    decidePut s c (some r) occupied = .merge (applyPutMerge r c) := by
  rw [brokenAmount_iff] at passes
  have good : ¬ (c.status = .refunded ∧ r.status ≠ .refunded ∧ ¬ wholeUnits s c.product c.refund) :=
    fun ⟨refunded, unrefunded, amount⟩ => passes.elim (· ⟨refunded, amount⟩) unrefunded
  simp only [decidePut, if_neg free, if_neg good]

end

section
variable {s : State} {k : SlotNo} {i : Instr} {p : Progress}
  (slot : s.hlc.slots.get k = some { request := i, progress := p }) (hw : s.sm.waiting = [])
include slot hw

/-- At TABLE_FULL the credit comes back and STORE_FULL is raised before the reply (log entry 58). -/
theorem putOutcome_tableFull (c : PassRecord) (a : PutReplies) :
    let t := putOutcome k c a .tableFull s
    Posts s t [] ∧ t.hlc.flags.getD EventClass.storeFull.code false = true ∧
      t.hlc.queue.getLast? = some (replyFrame k i a.full) := by
  obtain ⟨⟨credits, -⟩, -⟩ := decides_without_posting slot hw a.full
  have kept : (raise .storeFull (giveBackPosting s)).hlc.slots.get k = some { request := i, progress := p } := by
    simpa using slot
  refine ⟨⟨by simpa [putOutcome] using credits, by simp [putOutcome]⟩, ?_, ?_⟩
  · have flags : (putOutcome k c a .tableFull s).hlc.flags = (raise .storeFull (giveBackPosting s)).hlc.flags := by
      simp [putOutcome]
    rw [flags, raise, raiseBy_flags]
    exact flag_raised _ _
  · simp [putOutcome, reply_queue kept]

end

/-! ### The lanes and the active pass set -/

section
variable {s : State} (hw : s.sm.waiting = [])
include hw

theorem giveBackPosting_lanes : (giveBackPosting s).lanes = s.lanes := by
  rw [giveBackPosting_of_none hw]
  simp

theorem putOutcome_lanes (k : SlotNo) (c : PassRecord) (a : PutReplies) (d : PutDecision) :
    (putOutcome k c a d s).lanes = s.lanes := by
  cases d <;> simp [putOutcome, giveBackPosting_lanes hw]

omit hw in
theorem putOutcome_ae (k : SlotNo) (c : PassRecord) (a : PutReplies) (d : PutDecision) :
    (putOutcome k c a d s).ae = s.ae := by
  cases d <;> simp [putOutcome]

theorem decideMerge_lanes (k : SlotNo) (m : RawMerge) (result : LookupResult) :
    (decideMerge k m result s).lanes = s.lanes := by
  unfold decideMerge
  split
  · simp [giveBackPosting_lanes hw]
  · simp [giveBackPosting_lanes hw]
  · simp only []
    split <;> simp [giveBackPosting_lanes hw]

theorem decideStatus_lanes (k : SlotNo) (pass : Nat) (st : PassStatus) (amount : Option Nat) (result : LookupResult) :
    (decideStatus k pass st amount result s).lanes = s.lanes := by
  unfold decideStatus
  split
  · simp [giveBackPosting_lanes hw]
  · simp [giveBackPosting_lanes hw]
  · repeat' split
    all_goals simp [giveBackPosting_lanes hw]

theorem decideDrop_lanes (k : SlotNo) (pass : Nat) (result : LookupResult) :
    (decideDrop k pass result s).lanes = s.lanes := by
  unfold decideDrop
  split <;> simp [giveBackPosting_lanes hw]

end

/-! ### The clauses of the obligation -/

theorem brokenAmount_readEnded (l : Lookup) (s : State) (c : PassRecord) :
    BrokenAmount (readEnded l s) c ↔ BrokenAmount s c := Iff.rfl

theorem insertRecord_readEnded (l : Lookup) (s : State) (c : PassRecord) :
    insertRecord (readEnded l s) c = insertRecord s c := rfl

/-- A REFUNDED target carries its amount, and no other target carries one (R163). -/
theorem statusRefused_iff (l : Lookup) (s : State) {flag amount : Nat} {target : PassStatus}
    (carries : flag = 1 ↔ target = .refunded) (r : PassRecord) :
    let given : Option Nat := if flag = 1 then some amount else none
    let e := productOf s r.product
    target = .refunded ∧ (r.price < given.getD 0 ∨ ¬ wholeUnits (readEnded l s) r.product given) ↔
      target = .refunded ∧ (r.price < amount ∨ amount % (if e.kind = .unused then 1 else e.unit) ≠ 0) := by
  refine and_congr_right fun refunded => ?_
  rw [wholeUnits_iff, if_pos (carries.mpr refunded)]
  rfl

section
variable {s : State} {k : SlotNo} {i : Instr} {p : Progress}
  (slot : s.hlc.slots.get k = some { request := i, progress := p }) (hw : s.sm.waiting = [])
include slot hw

/-- R157 at a completed lookup, clause by clause, for the replies of either request. -/
theorem put_decided (l : Lookup) (c : PassRecord) (a : PutReplies) (found : Option PassRecord) (occupied : Nat) :
    let ended := readEnded l s
    let t := selectNext (putOutcome k c a (decidePut ended c found occupied) ended)
    (found = none → 4 ≤ occupied → Posts s t [] ∧ t.hlc.flags.getD EventClass.storeFull.code false = true ∧
      t.hlc.queue.getLast? = some (replyFrame k i a.full)) ∧
    (found = none → occupied < 4 → BrokenAmount s c → Decides s t k i [] a.bad) ∧
    (found = none → occupied < 4 → ¬ BrokenAmount s c → Posts s t [.putInsert (insertRecord s c)] ∧
      (insertRecord s c).stamp = none ∧ Answers s t k i (a.inserted (insertRecord s c))) ∧
    (∀ r, found = some r →
      let keepsDay := DaySet.offsets (r.daySet.getD 0) ≠ [] ∧ c.firstDay ≠ r.firstDay
      (keepsDay → Decides s t k i [] (a.locked r)) ∧
      (¬ keepsDay → BrokenAmount s c → r.status ≠ .refunded → Decides s t k i [] a.bad) ∧
      (¬ keepsDay → ¬ BrokenAmount s c ∨ r.status = .refunded →
        Decides s t k i [.putMerge c] (a.merged (applyPutMerge r c)))) := by
  have slot' := readEnded_slot slot l
  have hw' := readEnded_waiting hw l
  have unused (r : Reply) := (decides_without_posting slot' hw' r).completed
  have used (q : Posting) (r : Reply) := (decides_with_posting slot' q r).completed
  refine ⟨?full, ?absentBad, ?insert, fun r => ?present⟩
  case full =>
    rintro rfl full
    rw [decidePut_full full]
    obtain ⟨posted, raised, answered⟩ := putOutcome_tableFull slot' hw' c a
    exact ⟨posted.completed, by simpa using raised, by simpa using answered⟩
  case absentBad =>
    rintro rfl room broken
    rw [decidePut_absent_bad room ((brokenAmount_readEnded l s c).mpr broken)]
    exact unused _
  case insert =>
    rintro rfl room whole
    rw [decidePut_insert room (mt (brokenAmount_readEnded l s c).mp whole), insertRecord_readEnded]
    obtain ⟨posted, answered⟩ := used (.putInsert (insertRecord s c)) (a.inserted (insertRecord s c))
    exact ⟨posted, rfl, answered⟩
  case present =>
    rintro rfl
    simp only [← firstDayLocked_iff, ← brokenAmount_readEnded l s c]
    refine ⟨fun locked => ?_, fun free broken unrefunded => ?_, fun free passes => ?_⟩
    · rw [decidePut_locked locked]
      exact unused _
    · rw [decidePut_present_bad free broken unrefunded]
      exact unused _
    · rw [decidePut_merge free passes]
      exact used _ _

theorem merge_decided (l : Lookup) (m : RawMerge) (found : Option PassRecord) (occupied : Nat) :
    let t := selectNext (decideMerge k m (.read found occupied) (readEnded l s))
    (found = none → Decides s t k i [] (.status .notFound)) ∧
    (∀ r, found = some r →
      let taken := m.days.eraseDups.filter (dayTaken r)
      let ignored := m.days.eraseDups.length - taken.length
      (taken = [] → mergePassage m = none → Decides s t k i [] (.merged 0 ignored r)) ∧
      (taken ≠ [] ∨ (mergePassage m).isSome = true →
        Decides s t k i [.merge m.passId taken (mergePassage m)]
          (.merged taken.length ignored (applyMerge r taken (mergePassage m))))) := by
  have slot' := readEnded_slot slot l
  have hw' := readEnded_waiting hw l
  refine ⟨?absent, fun r => ?present⟩
  case absent =>
    rintro rfl
    exact (decideMerge_decides_absent slot' hw' m occupied).completed
  case present =>
    rintro rfl
    exact ⟨fun taken last => (decideMerge_decides_nothing slot' hw' occupied taken last).completed,
      fun hasWork => (decideMerge_decides_posting slot' occupied hasWork).completed⟩

theorem status_decided (l : Lookup) (pass flag amount : Nat) (target : PassStatus)
    (carries : flag = 1 ↔ target = .refunded) (found : Option PassRecord) (occupied : Nat) :
    let given : Option Nat := if flag = 1 then some amount else none
    let t := selectNext (decideStatus k pass target given (.read found occupied) (readEnded l s))
    (found = none → Decides s t k i [] (.status .notFound)) ∧
    (∀ r, found = some r →
      let e := productOf s r.product
      let refused := target = .refunded ∧ (r.price < amount ∨ amount % (if e.kind = .unused then 1 else e.unit) ≠ 0)
      (∀ a, r.status = .refunded → r.refund = some a → Decides s t k i [] (.passStatus .refunded (some a))) ∧
      (r.status ≠ .refunded → r.status = target → Decides s t k i [] (.passStatus target none)) ∧
      (r.status ≠ .refunded → r.status ≠ target → refused → Decides s t k i [] (.status .badField)) ∧
      (r.status ≠ .refunded → r.status ≠ target → ¬ refused →
        Decides s t k i [.status pass target given] (.passStatus target given))) := by
  have slot' := readEnded_slot slot l
  have hw' := readEnded_waiting hw l
  refine ⟨?absent, fun r => ?present⟩
  case absent =>
    rintro rfl
    exact (decideStatus_decides_absent slot' hw' pass target _ occupied).completed
  case present =>
    rintro rfl
    have refused_iff := statusRefused_iff l s carries r (amount := amount)
    exact ⟨fun a refunded amount =>
        (decideStatus_decides_refunded slot' hw' pass target _ occupied refunded amount).completed,
      fun unrefunded same => (decideStatus_decides_same slot' hw' pass _ occupied unrefunded same).completed,
      fun unrefunded other refused =>
        (decideStatus_decides_bad slot' hw' pass occupied unrefunded other (refused_iff.mpr refused)).completed,
      fun unrefunded other good =>
        (decideStatus_decides_posting slot' pass occupied unrefunded other (mt refused_iff.mp good)).completed⟩

omit hw in
theorem read_decided (l : Lookup) (pass : Nat) (found : Option PassRecord) (occupied : Nat) :
    let t := selectNext (decideRead k pass (.read found occupied) (readEnded l s))
    t.psc.postings = s.psc.postings ∧ t.psc.credits = s.psc.credits ∧
      t.hlc.queue = s.hlc.queue ++ [replyFrame k i (match found with
        | some r => .passRead r (bucketOf pass).val occupied
        | none => .notFoundRead (bucketOf pass).val occupied)] := by
  have slot' := readEnded_slot slot l
  refine ⟨by simp, by simp, ?_⟩
  cases found <;> simp [decideRead, reply_queue slot']

end

/-- The update requests, PASS_READ and an install leave the lanes and the active pass set as they were, where no lane waits
for a credit. -/
theorem serviceResult_lanes_ae {s : State} {k : SlotNo} {i : Instr} {p : Progress}
    (slot : s.hlc.slots.get k = some { request := i, progress := p }) (hw : s.sm.waiting = []) {tag pass : Nat}
    (hi : i = .passRead tag pass ∨ i = .passDrop tag pass ∨ (∃ raw, i = .passPut tag raw ∧ raw.passId = pass) ∨
      (∃ m, i = .passMerge tag m ∧ m.passId = pass) ∨ (∃ st flag amount, i = .passStatus tag pass st flag amount) ∨
      (∃ number verdict raw st, i = .inquiryAnswer tag number verdict (some raw) ∧ raw.passId = pass ∧ p = .install st))
    (found : Option PassRecord) (occupied : Nat) :
    (serviceResult k (.read found occupied) s).lanes = s.lanes ∧
      (serviceResult k (.read found occupied) s).ae = s.ae := by
  rcases hi with rfl | rfl | ⟨raw, rfl, -⟩ | ⟨m, rfl, -⟩ | ⟨st, flag, amount, rfl⟩ |
    ⟨number, verdict, raw, st, rfl, -, rfl⟩
  · simp [serviceResult, slot]
  · simp [serviceResult, slot, decideDrop_lanes hw]
  · simp [serviceResult, slot, decidePassPut_eq, putOutcome_lanes hw, putOutcome_ae]
  · simp [serviceResult, slot, decideMerge_lanes hw]
  · simp [serviceResult, slot, decideStatus_lanes hw]
  · simp [serviceResult, slot, decideInstall_eq, putOutcome_lanes hw, putOutcome_ae]

/-- The result of a lookup that asks for the occupancy (R69). -/
theorem lookupResult_of_occupancy {s : State} {l : Lookup} (h : l.occupancy = true) : lookupResult s l =
    .read (recordOf (forwarded s l.pass) l.pass) (occupancy (forwarded s l.pass)) := by
  rw [lookupResult, if_pos h]

/-- Settles O36: each request's clauses are those of its decision, carried over the completed lookup. -/
theorem updatesAreDecided : Obligations.UpdatesAreDecided := by
  intro s x l k i p tag on port read service hw slot found occupied bucket hi
  have ended := readEnded_slot slot l
  have ended_hw := readEnded_waiting hw l
  obtain ⟨lanes, ae⟩ := serviceResult_lanes_ae ended ended_hw hi found (if l.occupancy then occupied else 0)
  refine ⟨_, exec_lookupComplete_service on port read service, ?lanes, ?ae, ?store, ?passRead, ?passDrop,
    ⟨?passPut, ?install⟩, ?passMerge, ?passStatus⟩
  case lanes => simpa [lookupResult, found, occupied] using lanes
  case ae => simpa [lookupResult, found, occupied] using ae
  case store => simp
  case passRead =>
    rintro rfl asked
    simp only [serviceResult, ended, lookupResult_of_occupancy asked]
    exact read_decided slot l l.pass found occupied
  case passDrop =>
    rintro rfl
    simp only [serviceResult, ended]
    exact (decideDrop_decides ended ended_hw l.pass found _).completed
  case passPut =>
    rintro raw rfl pass asked
    simp only [serviceResult, ended, lookupResult_of_occupancy asked, decidePassPut_eq]
    rw [pass]
    exact put_decided slot hw l (rawToRecord raw) (passPutReplies l.pass occupied) found occupied
  case install =>
    rintro number verdict raw st rfl - asked rfl
    simp only [serviceResult, ended, lookupResult_of_occupancy asked, decideInstall_eq]
    exact put_decided slot hw l (rawToRecord raw) (installReplies st) found occupied
  case passMerge =>
    rintro m rfl -
    simp only [serviceResult, ended]
    exact merge_decided slot hw l m found _
  case passStatus =>
    rintro st flag amount target rfl named carries
    simp only [serviceResult, ended, named, Option.getD_some]
    exact status_decided slot hw l l.pass flag amount target carries found _

end Sys2Proof.UpdateProofs
end

section
/-! PROOFS. The losses of days and the weights of the passes that cover them (R132, R143 to R145). -/

namespace Sys2Proof.LossProofs
open Sys2Proof Sys2Proof.Machine Sys2Proof.Config

/-! ### The effective loss of a day (R132) -/

section
variable {s : State} {day : Nat}

theorem effectiveLoss_today (set : s.du.day ≠ 0) : effectiveLoss s s.du.day =
    max (s.du.lost * 1000 / s.sps.schedule.seconds)
      (((entryOf s.du.log s.du.day).bind (·.central)).getD 0) :=
  if_pos ⟨set, rfl⟩

theorem not_today (other : day ≠ s.du.day ∨ s.du.day = 0) : ¬ (s.du.day ≠ 0 ∧ day = s.du.day) :=
  fun ⟨set, today⟩ => other.elim (· today) set

theorem effectiveLoss_of_entry {e : ClosureEntry} (other : day ≠ s.du.day ∨ s.du.day = 0)
    (entry : entryOf s.du.log day = some e) : effectiveLoss s day = max e.local_ (e.central.getD 0) := by
  simp only [effectiveLoss, if_neg (not_today other), entry, Option.bind_some]

theorem effectiveLoss_of_no_entry (other : day ≠ s.du.day ∨ s.du.day = 0) (absent : entryOf s.du.log day = none) :
    effectiveLoss s day = 0 := by
  simp only [effectiveLoss, if_neg (not_today other), absent]

end

/-! ### The credit of a day (R143, R144) -/

theorem usedCredit_eq (s : State) (day : Nat) : usedCredit s day =
    if max 1 s.sps.bank.threshold ≤ effectiveLoss s day then effectiveLoss s day else 0 := by
  simp only [usedCredit, Nat.max_le, and_comm]

theorem consecutiveCredit_eq (s : State) (first : Nat) (set : DaySet) (past k : Nat) :
    consecutiveCredit s first set past k =
      if set.getLsbD k then
        (if max 1 s.sps.bank.threshold ≤ effectiveLoss s (first + k) then effectiveLoss s (first + k) else 0)
      else if first + k < s.du.day then past
      else 1000 := by
  rw [consecutiveCredit, usedCredit_eq, DaySet.has]

/-! ### The offsets of a day set, and the days a FLEX pass still owes (R145) -/

theorem offsets_rising (set : DaySet) : (DaySet.offsets set).Pairwise (· < ·) :=
  List.pairwise_lt_range.filter _

theorem mem_offsets_iff (set : DaySet) (k : Nat) : k ∈ DaySet.offsets set ↔ k < 64 ∧ set.getLsbD k = true := by
  simp [DaySet.offsets, DaySet.has]

theorem flexCounted_length (set : DaySet) (e : ProductEntry) :
    (flexCounted set e).length = min (DaySet.offsets set).length e.entitled := by
  rw [flexCounted, List.length_take, Nat.min_comm]

theorem flexWeight_eq (s : State) (first : Nat) (set : DaySet) (e : ProductEntry) : flexWeight s first set e =
    (((DaySet.offsets set).take e.entitled).map (fun k => usedCredit s (first + k))).sum +
      (e.entitled - min (DaySet.offsets set).length e.entitled) *
        (if first + e.span ≤ s.du.day then e.past else 1000) := by
  simp only [flexWeight, flexCounted_length, flexEnded, decide_eq_true_eq]
  exact Nat.add_comm _ _

/-- Settles O31: today's loss and the loss of a day with and without an entry, then the credits summed over the days. -/
theorem lossesWeighAPass : Obligations.LossesWeighAPass := by
  refine ⟨fun s day => ⟨effectiveLoss_today, fun e => effectiveLoss_of_entry, effectiveLoss_of_no_entry⟩,
    ?consecutive, ?flex⟩
  case consecutive =>
    intro s first set e
    rw [consecutiveWeight, funext (consecutiveCredit_eq s first set e.past)]
  case flex =>
    intro s first set e
    refine ⟨offsets_rising set, mem_offsets_iff set, ?_⟩
    rw [flexWeight_eq]
    simp only [usedCredit_eq]

end Sys2Proof.LossProofs
end

section
/-! PROOFS. The refund computation (R144 to R148), and a quote and a commit decided at their lookup's completion (R141,
R150, R151). -/

namespace Sys2Proof.RefundProofs
open Sys2Proof Sys2Proof.Machine Sys2Proof.Config Sys2Proof.LossProofs Sys2Proof.UpdateProofs

/-! ### The gross and the amount (R146, R147) -/

theorem grossOf_le {price weight days : Nat} (capped : weight ≤ days * 1000) : grossOf price weight days ≤ price :=
  Nat.div_le_of_le_mul <| calc
    price * weight ≤ price * (days * 1000) := Nat.mul_le_mul_left price capped
    _ = days * 1000 * price := Nat.mul_comm _ _

theorem grossOf_full {price days : Nat} (some_day : 0 < days) : grossOf price (days * 1000) days = price :=
  Nat.mul_div_cancel price (Nat.mul_pos some_day (by decide))

/-- R146: the product of the largest price and the weight of the longest pass is far below 48 bits. -/
theorem price_mul_weight_lt {price weight days : Nat} (capped : weight ≤ days * 1000) (dear : price ≤ 2000000)
    (long : days ≤ 64) : price * weight < 2 ^ 48 :=
  calc price * weight ≤ 2000000 * (64 * 1000) :=
        Nat.mul_le_mul dear (Nat.le_trans capped (Nat.mul_le_mul_right 1000 long))
    _ < 2 ^ 48 := by decide

theorem unit_dvd_amountOf (gross fee unit : Nat) : unit ∣ amountOf gross fee unit := by
  unfold amountOf
  split
  · exact Nat.dvd_zero unit
  · exact Nat.dvd_mul_left unit _

theorem amountOf_le (gross fee unit : Nat) : amountOf gross fee unit ≤ gross := by
  unfold amountOf
  split
  · exact Nat.zero_le gross
  · exact Nat.le_trans (Nat.div_mul_le_self _ unit) (Nat.sub_le gross fee)

/-! ### The day counts (R148) -/

/-- Days that are used, unused before a day, or unused from it on are all the days. -/
theorem length_used_add_unused (days : List Nat) (used past future : Nat → Bool) (from_on : ∀ k, future k = !past k) :
    (days.filter used).length + (days.filter (fun k => !used k && past k)).length +
      (days.filter (fun k => !used k && future k)).length = days.length := by
  induction days with
  | nil => rfl
  | cons k days ih =>
    cases used_k : used k with
    | true =>
      simp only [List.filter_cons, used_k, Bool.not_true, Bool.false_and, if_true, Bool.false_eq_true, if_false,
        List.length_cons]
      omega
    | false =>
      cases past_k : past k <;>
        simp only [List.filter_cons, used_k, past_k, from_on, Bool.not_true, Bool.not_false, Bool.and_self,
          Bool.and_false, if_true, Bool.false_eq_true, if_false, List.length_cons] at ih ⊢ <;>
        omega

section
variable (s : State) (r : PassRecord) (e : ProductEntry)

theorem computeRefund_weight_le :
    (computeRefund s r e).weight ≤ (if e.kind = .flex then e.entitled else e.span) * 1000 :=
  Nat.min_le_right _ _

variable {e}

section
variable (flex : e.kind = .flex)
include flex

theorem computeRefund_used_of_flex :
    (computeRefund s r e).used = min (DaySet.offsets (r.daySet.getD 0)).length e.entitled := by
  simp only [computeRefund, if_pos flex, flexCounted_length]

theorem computeRefund_unusedPast_of_flex : (computeRefund s r e).unusedPast =
    if r.firstDay + e.span ≤ s.du.day then e.entitled - min (DaySet.offsets (r.daySet.getD 0)).length e.entitled
    else 0 := by
  simp only [computeRefund, if_pos flex, flexCounted_length, flexEnded, decide_eq_true_eq]

theorem computeRefund_unusedFuture_of_flex : (computeRefund s r e).unusedFuture =
    if r.firstDay + e.span ≤ s.du.day then 0
    else e.entitled - min (DaySet.offsets (r.daySet.getD 0)).length e.entitled := by
  simp only [computeRefund, if_pos flex, flexCounted_length, flexEnded, decide_eq_true_eq]

theorem computeRefund_weight_of_flex : (computeRefund s r e).weight =
    min (flexWeight s r.firstDay (r.daySet.getD 0) e) (e.entitled * 1000) := by
  simp only [computeRefund, if_pos flex]

end

section
variable (other : e.kind ≠ .flex)
include other

theorem computeRefund_used_of_not_flex : (computeRefund s r e).used =
    ((List.range e.span).filter (fun k => (r.daySet.getD 0).getLsbD k)).length := by
  simp only [computeRefund, if_neg other, DaySet.has]

theorem computeRefund_unusedPast_of_not_flex : (computeRefund s r e).unusedPast =
    ((List.range e.span).filter (fun k => !(r.daySet.getD 0).getLsbD k && r.firstDay + k < s.du.day)).length := by
  simp only [computeRefund, if_neg other, DaySet.has]

theorem computeRefund_unusedFuture_of_not_flex : (computeRefund s r e).unusedFuture =
    ((List.range e.span).filter (fun k => !(r.daySet.getD 0).getLsbD k && s.du.day ≤ r.firstDay + k)).length := by
  simp only [computeRefund, if_neg other, DaySet.has]

theorem computeRefund_weight_of_not_flex : (computeRefund s r e).weight =
    min (consecutiveWeight s r.firstDay (r.daySet.getD 0) e) (e.span * 1000) := by
  simp only [computeRefund, if_neg other]

end

theorem computeRefund_days_add : (computeRefund s r e).used + (computeRefund s r e).unusedPast +
    (computeRefund s r e).unusedFuture = if e.kind = .flex then e.entitled else e.span := by
  by_cases flex : e.kind = .flex
  · rw [computeRefund_used_of_flex s r flex, computeRefund_unusedPast_of_flex s r flex,
      computeRefund_unusedFuture_of_flex s r flex, if_pos flex]
    have counted := Nat.min_le_right (DaySet.offsets (r.daySet.getD 0)).length e.entitled
    split <;> omega
  · rw [computeRefund_used_of_not_flex s r flex, computeRefund_unusedPast_of_not_flex s r flex,
      computeRefund_unusedFuture_of_not_flex s r flex, if_neg flex]
    refine (length_used_add_unused _ _ _ _ fun k => ?_).trans List.length_range
    rw [← decide_not, decide_eq_decide]
    exact Nat.not_lt.symm

end

/-- Settles O32: the bounds are those of the gross and of the amount at the capped weight, the counts those of the kind. -/
theorem refundAmountsAreBounded : Obligations.RefundAmountsAreBounded := by
  intro s r e
  have capped := computeRefund_weight_le s r e
  refine ⟨capped, rfl, grossOf_le capped, ?full, price_mul_weight_lt capped, rfl, unit_dvd_amountOf _ _ _,
    amountOf_le _ _ _, rfl, rfl, rfl, rfl, computeRefund_days_add s r, fun flex => ?flex, fun other => ?other⟩
  case full =>
    intro some_day full
    exact (congrArg (grossOf r.price · _) full).trans (grossOf_full some_day)
  case flex =>
    rw [if_pos flex]
    exact ⟨computeRefund_used_of_flex s r flex, computeRefund_unusedPast_of_flex s r flex,
      computeRefund_weight_of_flex s r flex⟩
  case other =>
    rw [if_neg other]
    exact ⟨computeRefund_used_of_not_flex s r other, computeRefund_unusedPast_of_not_flex s r other,
      computeRefund_weight_of_not_flex s r other⟩

/-! ### The outcome of a refund request (R139, R141) -/

/-- R139: the products whose passes are refunded. -/
abbrev Refunds (e : ProductEntry) : Prop := (e.kind = .consecutive ∨ e.kind = .flex) ∧ e.refundable = true

theorem refundable_iff (r : PassRecord) (e : ProductEntry) :
    refundable r e = true ↔ r.status ≠ .refunded ∧ Refunds e := by
  simp [refundable, and_assoc]

theorem not_refunds_of {e : ProductEntry} (h : e.kind = .unused ∨ e.kind = .season ∨ e.refundable = false) :
    ¬ Refunds e := by
  rintro ⟨kind, allowed⟩
  rcases h with unused | season | refused
  · simp [unused] at kind
  · simp [season] at kind
  · simp [refused] at allowed

section
variable {s : State} {r : PassRecord} (occupied : Nat)

theorem refundOutcome_of_refunded {amount : Nat} (refunded : r.status = .refunded) (recorded : r.refund = some amount) :
    refundOutcome s (.read (some r) occupied) = (.alreadyRefunded, { RefundFigures.zero with amount := amount }) := by
  simp only [refundOutcome, if_pos refunded, storedRefund, recorded, Option.getD_some]

variable (unrefunded : r.status ≠ .refunded)
include unrefunded

theorem refundOutcome_of_refunds (refunds : Refunds (productOf s r.product)) :
    refundOutcome s (.read (some r) occupied) = (.ok, computeRefund s r (productOf s r.product)) := by
  simp only [refundOutcome, if_neg unrefunded, if_pos ((refundable_iff r _).mpr ⟨unrefunded, refunds⟩)]

theorem refundOutcome_of_not_refunds (refuses : ¬ Refunds (productOf s r.product)) :
    refundOutcome s (.read (some r) occupied) = (.notRefundable, RefundFigures.zero) := by
  have unrefundable : ¬ refundable r (productOf s r.product) = true :=
    fun h => refuses ((refundable_iff r _).mp h).2
  simp only [refundOutcome, if_neg unrefunded, if_neg unrefundable]

end

/-- The figures read the settings, the clock and the closure log, which the end of a bucket read leaves (R69). -/
theorem computeRefund_readEnded (l : Lookup) (s : State) (r : PassRecord) (e : ProductEntry) :
    computeRefund (readEnded l s) r e = computeRefund s r e := rfl

theorem refundOutcome_readEnded (l : Lookup) (s : State) (result : LookupResult) :
    refundOutcome (readEnded l s) result = refundOutcome s result := by
  cases result <;> rfl

/-! ### A quote (R141) -/

theorem decideQuote_answers {s : State} {k : SlotNo} {i : Instr} {p : Progress}
    (slot : s.hlc.slots.get k = some { request := i, progress := p }) (result : LookupResult) :
    Answers s (decideQuote k result s) k i (.refund (refundOutcome s result).1 (refundOutcome s result).2) :=
  reply_queue slot _

/-- A completed bucket read with its quote changes the port, the commit that the next read may belong to, the count of the
reads, and the outgoing queue. -/
theorem quote_onlyChanges (l : Lookup) (k : SlotNo) (result : LookupResult) (s : State) :
    OnlyChanges [.psc, .ru, .jnl, .hlc] s (selectNext (decideQuote k result (readEnded l s))) := by
  intro part unnamed
  cases part <;> simp_all [Part.same, readEnded]

/-! ### The record of an agreed commit (R151, R172) -/

theorem readyStamp_nextStamp (s : State) : (readyStamp s).nextStamp =
    if max32 < s.jnl.nextSeq && s.sps.epoch < max16 then { epoch := s.sps.epoch + 1, seq := 1 }
    else { epoch := s.sps.epoch, seq := s.jnl.nextSeq } := by
  unfold readyStamp
  split
  · unfold advanceEpoch
    simp only []
    split <;> simp [State.nextStamp]
  · rfl

theorem readyStamp_nextStamp_congr {s t : State} (seq : t.jnl.nextSeq = s.jnl.nextSeq)
    (epoch : t.sps.epoch = s.sps.epoch) : (readyStamp t).nextStamp = (readyStamp s).nextStamp := by
  rw [readyStamp_nextStamp, readyStamp_nextStamp, seq, epoch]

theorem appendRecord_records (time : Time) (body : JBody) (s : State) : (appendRecord time body s).jnl.records =
    s.jnl.records ++ [{ stamp := (readyStamp s).nextStamp, time := time, body := body }] := by
  unfold appendRecord
  simp only []
  split <;> simp

theorem appendRecord_lastStamp (time : Time) (body : JBody) (s : State) :
    (appendRecord time body s).lastStamp = (readyStamp s).nextStamp := by
  unfold appendRecord
  simp only []
  split <;> simp [State.lastStamp, State.nextStamp]

/-! ### The end of a commit (R150, R151) -/

theorem giveBackJournal_of_none {s : State} (h : s.sm.waiting = []) : giveBackJournal s = releaseJournal s := by
  have none : (releaseJournal s).sm.waiting = [] := by simpa using h
  rw [giveBackJournal, ← granting_eq, granting_of_none none]

/-- A commit has ended, agreed or refused: it is no longer in flight, its hold has left the active pass set, and its
credits are used or given back. -/
structure CommitEnded (s t : State) : Prop where
  commit : t.ru.commit = none
  ae : t.ae = s.ae.without .refund
  posting : t.psc.credits = s.psc.credits - 1
  journal : t.jnl.credits = s.jnl.credits - 1
  frame : OnlyChanges [.ae, .psc, .ru, .jnl, .hlc, .sps] s t

/-- A commit has been refused with a reply: nothing is posted, nothing recorded (R150). -/
def CommitRefused (s t : State) (k : SlotNo) (i : Instr) (r : Reply) : Prop :=
  t.sps = s.sps ∧ t.psc.postings = s.psc.postings ∧ t.jnl.records = s.jnl.records ∧ Answers s t k i r

/-- The REFUND record of an agreed commit, with the next stamp (R151, R172). -/
def refundRecord (s : State) (c : Commit) (f : RefundFigures) : JRecord where
  stamp := (readyStamp s).nextStamp
  time := s.now
  body := .refund c.pass f.amount f.weight s.du.day

/-- A commit has been agreed: its REFUND_MARK posted, its REFUND record written, its reply with the record's stamp the
last frame of the queue (R151). -/
def CommitAgreed (s t : State) (k : SlotNo) (i : Instr) (c : Commit) (f : RefundFigures) : Prop :=
  t.psc.postings = s.psc.postings ++ [.refundMark c.pass f.amount] ∧
    t.jnl.records = s.jnl.records ++ [refundRecord s c f] ∧
    t.hlc.queue.getLast? = some (replyFrame k i (.committed f (refundRecord s c f).stamp))

section
variable {s : State} {k : SlotNo} {i : Instr} {p : Progress}
  (slot : s.hlc.slots.get k = some { request := i, progress := p }) (hw : s.sm.waiting = [])

section
include hw

theorem refuseCommit_of_none (st : Status) (f : RefundFigures) : refuseCommit k st f s =
    reply k (.refund st f)
      (releaseJournal (dropPostingCredit ((leaveSet .refund s).withRu { commit := none }))) := by
  rw [refuseCommit, giveBackPosting_of_none (by simpa using hw), giveBackJournal_of_none (by simpa using hw)]

theorem refuseCommit_ended (st : Status) (f : RefundFigures) : CommitEnded s (refuseCommit k st f s) := by
  rw [refuseCommit_of_none hw]
  refine ⟨by simp, ?ae, ?posting, ?journal, ?frame⟩
  case ae => simp [leaveSet, AeState.without]
  case posting => simp [dropPostingCredit]
  case journal => simp [releaseJournal]
  case frame =>
    intro part unnamed
    cases part <;> simp_all [Part.same]

include slot in
theorem refuseCommit_refused (st : Status) (f : RefundFigures) :
    CommitRefused s (refuseCommit k st f s) k i (.refund st f) := by
  rw [refuseCommit_of_none hw]
  refine ⟨by simp, by simp, by simp, ?_⟩
  exact reply_queue (s := releaseJournal (dropPostingCredit ((leaveSet .refund s).withRu { commit := none }))) slot _

end

/-- The state in which an agreed commit has posted its mark and written its record (R151). -/
def refundRecorded (c : Commit) (f : RefundFigures) (s : State) : State :=
  writeReserved s.now (.refund c.pass f.amount f.weight s.du.day) (enqueueReserved (.refundMark c.pass f.amount) s)

theorem completeCommit_eq (c : Commit) (f : RefundFigures) (s : State) : completeCommit c f s =
    reply c.slot (.committed f (refundRecorded c f s).lastStamp)
      ((leaveSet .refund (refundRecorded c f s)).withRu { commit := none }) := by
  simp [completeCommit, refundRecorded]

theorem refundRecorded_lastStamp (c : Commit) (f : RefundFigures) (s : State) :
    (refundRecorded c f s).lastStamp = (refundRecord s c f).stamp := by
  rw [refundRecorded, writeReserved, appendRecord_lastStamp]
  exact readyStamp_nextStamp_congr (by simp) (by simp)

theorem refundRecorded_records (c : Commit) (f : RefundFigures) (s : State) :
    (refundRecorded c f s).jnl.records = s.jnl.records ++ [refundRecord s c f] := by
  rw [refundRecorded, writeReserved, appendRecord_records, readyStamp_nextStamp_congr (s := s) (by simp) (by simp)]
  simp [refundRecord]

theorem completeCommit_ended (c : Commit) (f : RefundFigures) : CommitEnded s (completeCommit c f s) := by
  refine ⟨?commit, ?ae, ?posting, ?journal, ?frame⟩
  case commit => simp [completeCommit_eq]
  case ae => simp [completeCommit_eq, leaveSet, AeState.without, refundRecorded]
  case posting => simp [completeCommit_eq, refundRecorded, enqueueReserved, dropPostingCredit]
  case journal => simp [completeCommit_eq, refundRecorded, writeReserved]
  case frame =>
    intro part unnamed
    cases part <;> simp_all [Part.same]

include slot in
theorem completeCommit_agreed {c : Commit} (own : c.slot = k) (f : RefundFigures) :
    CommitAgreed s (completeCommit c f s) k i c f := by
  refine ⟨?postings, ?records, ?answers⟩
  case postings => simp [completeCommit_eq, refundRecorded, enqueueReserved, enqueue_postings]
  case records => simp [completeCommit_eq, refundRecorded_records]
  case answers =>
    have kept : ((leaveSet .refund (refundRecorded c f s)).withRu { commit := none }).hlc.slots.get k =
        some { request := i, progress := p } := by
      simpa [refundRecorded] using slot
    rw [completeCommit_eq, own, reply_queue kept, refundRecorded_lastStamp, List.getLast?_concat]

end

/-! ### A commit (R150, R151) -/

section
variable {s : State} {k : SlotNo} {c : Commit} {result : LookupResult} {st : Status} {f : RefundFigures}
  (commit : s.ru.commit = some c)
include commit

theorem decideCommit_of_refused (outcome : refundOutcome s result = (st, f)) (refused : st ≠ .ok) :
    decideCommit k result s = refuseCommit k st f s := by
  simp only [decideCommit, commit, outcome]

theorem decideCommit_of_changed (outcome : refundOutcome s result = (.ok, f)) (changed : f.amount ≠ c.amount) :
    decideCommit k result s = refuseCommit k .quoteChanged f s := by
  simp only [decideCommit, commit, outcome, if_neg changed]

theorem decideCommit_of_agreed (outcome : refundOutcome s result = (.ok, f)) (agreed : f.amount = c.amount) :
    decideCommit k result s = completeCommit c f s := by
  simp only [decideCommit, commit, outcome, if_pos agreed]

/-- Whatever the outcome, the commit ends. -/
theorem decideCommit_ended (hw : s.sm.waiting = []) : CommitEnded s (decideCommit k result s) := by
  rcases outcome : refundOutcome s result with ⟨st, f⟩
  by_cases ok : st = .ok
  · subst ok
    by_cases agreed : f.amount = c.amount
    · rw [decideCommit_of_agreed commit outcome agreed]
      exact completeCommit_ended c f
    · rw [decideCommit_of_changed commit outcome agreed]
      exact refuseCommit_ended hw _ f
  · rw [decideCommit_of_refused commit outcome ok]
    exact refuseCommit_ended hw st f

end

/-! ### A commit at the completion of its lookup -/

theorem noteCommitInFlight_of_none {s : State} (h : s.ru.commit = none) (r : Requester) :
    noteCommitInFlight r s = s := by
  simp only [noteCommitInFlight, h]

theorem startLookup_commit_of_none {s : State} (h : s.ru.commit = none) (l : Lookup) :
    (startLookup l s).ru.commit = none := by
  rw [startLookup, noteCommitInFlight_of_none] <;> simpa using h

/-- The selection of the next operation puts no commit in flight that was not there (R138). -/
theorem selectNext_commit_of_none {s : State} (h : s.ru.commit = none) : (selectNext s).ru.commit = none := by
  unfold selectNext
  simp only []
  repeat' split
  all_goals simp [startLookup_commit_of_none, h]

section
variable {s t : State} {l : Lookup} {k : SlotNo} {i : Instr}

theorem CommitEnded.completed (h : CommitEnded (readEnded l s) t) : CommitEnded s (selectNext t) where
  commit := selectNext_commit_of_none h.commit
  ae := by simpa using h.ae
  posting := by simpa using h.posting
  journal := by simpa [readEnded] using h.journal
  frame := by
    intro part unnamed
    have kept := h.frame part unnamed
    cases part <;> simp_all [Part.same, readEnded]

theorem CommitRefused.completed {r : Reply} (h : CommitRefused (readEnded l s) t k i r) :
    CommitRefused s (selectNext t) k i r := by
  obtain ⟨sps, postings, records, answers⟩ := h
  exact ⟨by simpa using sps, by simpa using postings, by simpa [readEnded] using records, answers.completed⟩

theorem refundRecord_readEnded (l : Lookup) (s : State) (c : Commit) (f : RefundFigures) :
    refundRecord (readEnded l s) c f = refundRecord s c f := by
  rw [refundRecord, readyStamp_nextStamp_congr (t := readEnded l s) (s := s) rfl rfl]
  rfl

theorem CommitAgreed.completed {c : Commit} {f : RefundFigures} (h : CommitAgreed (readEnded l s) t k i c f) :
    CommitAgreed s (selectNext t) k i c f := by
  obtain ⟨postings, records, answers⟩ := h
  rw [refundRecord_readEnded] at records answers
  exact ⟨by simpa using postings, by simpa [readEnded] using records, by simpa using answers⟩

end

/-! ### The clauses of the obligation -/

/-- R141 at a completed lookup, clause by clause. -/
theorem quote_decided {s : State} {k : SlotNo} {i : Instr} {p : Progress}
    (slot : s.hlc.slots.get k = some { request := i, progress := p }) (l : Lookup) (found : Option PassRecord)
    (occupied : Nat) :
    let t := selectNext (decideQuote k (.read found occupied) (readEnded l s))
    (found = none → Answers s t k i (.refund .notFound RefundFigures.zero)) ∧
    (∀ r, found = some r →
      let e := productOf s r.product
      (∀ amount, r.status = .refunded → r.refund = some amount →
        Answers s t k i (.refund .alreadyRefunded { RefundFigures.zero with amount := amount })) ∧
      (r.status ≠ .refunded →
        (Refunds e → Answers s t k i (.refund .ok (computeRefund s r e))) ∧
        (e.kind = .unused ∨ e.kind = .season ∨ e.refundable = false →
          Answers s t k i (.refund .notRefundable RefundFigures.zero)))) := by
  have answered := (decideQuote_answers (readEnded_slot slot l) (.read found occupied)).completed
  rw [refundOutcome_readEnded] at answered
  refine ⟨?absent, fun r => ?present⟩
  case absent =>
    rintro rfl
    exact answered
  case present =>
    rintro rfl
    refine ⟨fun amount refunded recorded => ?_, fun unrefunded => ⟨fun refunds => ?_, fun excluded => ?_⟩⟩
    · rwa [refundOutcome_of_refunded occupied refunded recorded] at answered
    · rwa [refundOutcome_of_refunds occupied unrefunded refunds] at answered
    · rwa [refundOutcome_of_not_refunds occupied unrefunded (not_refunds_of excluded)] at answered

/-- R150, R151 at a completed lookup, clause by clause. -/
theorem commit_decided {s : State} {k : SlotNo} {i : Instr} {p : Progress} {c : Commit}
    (slot : s.hlc.slots.get k = some { request := i, progress := p }) (hw : s.sm.waiting = [])
    (commit : s.ru.commit = some c) (own : c.slot = k) (l : Lookup) (found : Option PassRecord) (occupied : Nat) :
    let t := selectNext (decideCommit k (.read found occupied) (readEnded l s))
    (found = none → CommitRefused s t k i (.refund .notFound RefundFigures.zero)) ∧
    (∀ r, found = some r →
      let e := productOf s r.product
      let f := computeRefund s r e
      (∀ a, r.status = .refunded → r.refund = some a →
        CommitRefused s t k i (.refund .alreadyRefunded { RefundFigures.zero with amount := a })) ∧
      (r.status ≠ .refunded → ¬ Refunds e → CommitRefused s t k i (.refund .notRefundable RefundFigures.zero)) ∧
      (r.status ≠ .refunded → Refunds e → f.amount ≠ c.amount → CommitRefused s t k i (.refund .quoteChanged f)) ∧
      (r.status ≠ .refunded → Refunds e → f.amount = c.amount → CommitAgreed s t k i c f)) := by
  have slot' := readEnded_slot slot l
  have commit' : (readEnded l s).ru.commit = some c := commit
  have refused (st : Status) (f : RefundFigures) :=
    (refuseCommit_refused slot' (readEnded_waiting hw l) st f).completed
  have outcome := refundOutcome_readEnded l s (.read found occupied)
  refine ⟨?absent, fun r => ?present⟩
  case absent =>
    rintro rfl
    rw [decideCommit_of_refused commit' outcome (by decide)]
    exact refused _ _
  case present =>
    rintro rfl
    refine ⟨fun a refunded recorded => ?_, fun unrefunded excluded => ?_, fun unrefunded refunds changed => ?_,
      fun unrefunded refunds agreed => ?_⟩
    · rw [decideCommit_of_refused commit' (outcome.trans (refundOutcome_of_refunded _ refunded recorded)) (by decide)]
      exact refused _ _
    · rw [decideCommit_of_refused commit' (outcome.trans (refundOutcome_of_not_refunds _ unrefunded excluded))
        (by decide)]
      exact refused _ _
    · rw [decideCommit_of_changed commit' (outcome.trans (refundOutcome_of_refunds _ unrefunded refunds)) changed]
      exact refused _ _
    · rw [decideCommit_of_agreed commit' (outcome.trans (refundOutcome_of_refunds _ unrefunded refunds)) agreed]
      exact (completeCommit_agreed slot' own _).completed

/-- Settles O34: a quote changes nothing but its reply; a commit ends, refused or agreed by the outcome of its lookup. -/
theorem refundCommitIsDecided : Obligations.RefundCommitIsDecided := by
  refine ⟨?quote, ?commit⟩
  case quote =>
    intro s x l k tag pass p on port read service slot found
    refine ⟨_, exec_lookupComplete_service on port read service, ?_⟩
    simp only [serviceResult, readEnded_slot slot l]
    refine ⟨quote_onlyChanges l k _ s, by simp, by simp, by simp [readEnded], by simp [readEnded], ?_⟩
    exact quote_decided slot l found _
  case commit =>
    intro s x l k tag pass amount p c on port read service slot commit own hw found
    refine ⟨_, exec_lookupComplete_service on port read service, ?_⟩
    simp only [serviceResult, readEnded_slot slot l]
    obtain ⟨noCommit, ae, posting, journal, frame⟩ := (decideCommit_ended (k := k) (result := lookupResult s l)
      (show (readEnded l s).ru.commit = some c from commit) (readEnded_waiting hw l)).completed
    exact ⟨noCommit, ae, posting, journal, frame, commit_decided slot hw commit own l found _⟩

end Sys2Proof.RefundProofs
end

section
/-! PROOFS. The deny list (R168) and the three requests on it (R169). -/

namespace Sys2Proof.DenyListProofs
open Sys2Proof Sys2Proof.Machine Sys2Proof.Config Sys2Proof.InquiryProofs

/-! ### An ID put into the deny list -/

theorem mem_denyInsert_iff {pass x : Nat} {xs : List Nat} : x ∈ denyInsert pass xs ↔ x = pass ∨ x ∈ xs := by
  induction xs with
  | nil => simp [denyInsert]
  | cons y ys ih =>
    unfold denyInsert
    split
    · simp
    · split
      · next same => simp [same]
      · simp [ih, or_left_comm]

theorem length_denyInsert {pass : Nat} {xs : List Nat} (new : pass ∉ xs) :
    (denyInsert pass xs).length = xs.length + 1 := by
  induction xs with
  | nil => rfl
  | cons y ys ih =>
    obtain ⟨other, new⟩ := not_or.mp (mt List.mem_cons.mpr new)
    simp only [denyInsert, if_neg other]
    split <;> simp [ih new]

theorem filter_denyInsert {pass : Nat} {xs : List Nat} (new : pass ∉ xs) :
    (denyInsert pass xs).filter (· != pass) = xs := by
  induction xs with
  | nil => simp [denyInsert]
  | cons y ys ih =>
    obtain ⟨other, rest⟩ := not_or.mp (mt List.mem_cons.mpr new)
    have kept : (y :: ys).filter (· != pass) = y :: ys :=
      List.filter_eq_self.mpr fun x mem => bne_iff_ne.mpr fun same => new (same ▸ mem)
    simp only [denyInsert, if_neg other]
    split
    · rw [List.filter_cons_of_neg (by simp), kept]
    · rw [List.filter_cons_of_pos (by simpa using Ne.symm other), ih rest]

theorem denyInsert_rising {pass : Nat} {xs : List Nat} (rising : xs.Pairwise (· < ·)) :
    (denyInsert pass xs).Pairwise (· < ·) := by
  induction xs with
  | nil => simp [denyInsert]
  | cons y ys ih =>
    obtain ⟨first, rest⟩ := List.pairwise_cons.mp rising
    unfold denyInsert
    split
    · next below =>
      refine List.pairwise_cons.mpr ⟨fun x mem => ?_, rising⟩
      rcases List.mem_cons.mp mem with rfl | mem
      · exact below
      · exact Nat.lt_trans below (first x mem)
    · split
      · exact rising
      · refine List.pairwise_cons.mpr ⟨fun x mem => ?_, ih rest⟩
        rcases mem_denyInsert_iff.mp mem with rfl | mem
        · omega
        · exact first x mem

/-! ### The requests -/

section
variable {s : State} {k : SlotNo} (hk : SlotFor s k) (tag : Nat)

/-- The reply of a deny-list request counts the entries that the request leaves (R169). -/
theorem denyReply_holding (s : State) (i : Instr) (k : SlotNo) (st : Status) (list : List Nat) :
    denyReply k st ((s.withHlc (s.hlc.holding i k .taken)).withLsu { deny := list }) =
      (s.withLsu { deny := list }).withHlc (s.hlc.answered i k (.denyCount st list.length)) :=
  reply_of_hlc_holding rfl _

/-- A reply without a change of the list. -/
theorem denyReply_unchanged (s : State) (i : Instr) (k : SlotNo) (st : Status) :
    denyReply k st (s.withHlc (s.hlc.holding i k .taken)) =
      s.withHlc (s.hlc.answered i k (.denyCount st s.lsu.deny.length)) :=
  denyReply_holding s i k st s.lsu.deny

include hk

theorem exec_denyClear : exec (.denyClear tag) s = .next ((s.withLsu { deny := [] }).withHlc
    (s.hlc.answered (.denyClear tag) k (.denyCleared 0 s.lsu.deny.length))) := by
  calc exec (.denyClear tag) s = execDenyClear tag s := rfl
    _ = .next (reply k (.denyCleared 0 s.lsu.deny.length)
          ((s.withHlc (s.hlc.holding (.denyClear tag) k .taken)).withLsu { deny := [] })) := by
      rw [execDenyClear, takeRequest_slot hk]
      rfl
    _ = _ := by rw [reply_of_hlc_holding rfl]; rfl

variable {pass : Nat}

theorem exec_denyAdd_zero : exec (.denyAdd tag 0) s = .next (s.withHlc
    (s.hlc.answered (.denyAdd tag 0) k (.denyCount .badField s.lsu.deny.length))) := by
  calc exec (.denyAdd tag 0) s = execDenyAdd tag 0 s := rfl
    _ = _ := by rw [execDenyAdd, takeRequest_slot hk, if_pos rfl, denyReply_unchanged]

theorem exec_denyRemove_zero : exec (.denyRemove tag 0) s = .next (s.withHlc
    (s.hlc.answered (.denyRemove tag 0) k (.denyCount .badField s.lsu.deny.length))) := by
  calc exec (.denyRemove tag 0) s = execDenyRemove tag 0 s := rfl
    _ = _ := by rw [execDenyRemove, takeRequest_slot hk, if_pos rfl, denyReply_unchanged]

section
variable (named : pass ≠ 0)
include named

theorem exec_denyAdd_listed (listed : pass ∈ s.lsu.deny) : exec (.denyAdd tag pass) s = .next (s.withHlc
    (s.hlc.answered (.denyAdd tag pass) k (.denyCount .ok s.lsu.deny.length))) := by
  have found : s.lsu.deny.contains pass = true := List.contains_iff_mem.mpr listed
  calc exec (.denyAdd tag pass) s = execDenyAdd tag pass s := rfl
    _ = _ := by
      simp only [execDenyAdd, takeRequest_slot hk, if_neg named, withHlc_lsu, if_pos found, denyReply_unchanged]

theorem exec_denyRemove_listed (listed : pass ∈ s.lsu.deny) : exec (.denyRemove tag pass) s =
    .next ((s.withLsu { deny := s.lsu.deny.filter (· != pass) }).withHlc
      (s.hlc.answered (.denyRemove tag pass) k (.denyCount .ok (s.lsu.deny.filter (· != pass)).length))) := by
  have found : s.lsu.deny.contains pass = true := List.contains_iff_mem.mpr listed
  calc exec (.denyRemove tag pass) s = execDenyRemove tag pass s := rfl
    _ = _ := by
      simp only [execDenyRemove, takeRequest_slot hk, if_neg named, withHlc_lsu, if_pos found, denyReply_holding]

variable (absent : pass ∉ s.lsu.deny)
include absent

theorem exec_denyRemove_absent : exec (.denyRemove tag pass) s = .next (s.withHlc
    (s.hlc.answered (.denyRemove tag pass) k (.denyCount .notFound s.lsu.deny.length))) := by
  have missing : ¬ s.lsu.deny.contains pass = true := mt List.contains_iff_mem.mp absent
  calc exec (.denyRemove tag pass) s = execDenyRemove tag pass s := rfl
    _ = _ := by
      simp only [execDenyRemove, takeRequest_slot hk, if_neg named, withHlc_lsu, if_neg missing, denyReply_unchanged]

theorem exec_denyAdd_full (full : 2048 ≤ s.lsu.deny.length) : exec (.denyAdd tag pass) s = .next (s.withHlc
    (s.hlc.answered (.denyAdd tag pass) k (.denyCount .listFull s.lsu.deny.length))) := by
  have missing : ¬ s.lsu.deny.contains pass = true := mt List.contains_iff_mem.mp absent
  calc exec (.denyAdd tag pass) s = execDenyAdd tag pass s := rfl
    _ = _ := by
      simp only [execDenyAdd, takeRequest_slot hk, if_neg named, withHlc_lsu, if_neg missing, denyCapacity,
        if_pos full, denyReply_unchanged]

theorem exec_denyAdd_joins (room : s.lsu.deny.length < 2048) : exec (.denyAdd tag pass) s =
    .next ((s.withLsu { deny := denyInsert pass s.lsu.deny }).withHlc
      (s.hlc.answered (.denyAdd tag pass) k (.denyCount .ok (s.lsu.deny.length + 1)))) := by
  have missing : ¬ s.lsu.deny.contains pass = true := mt List.contains_iff_mem.mp absent
  calc exec (.denyAdd tag pass) s = execDenyAdd tag pass s := rfl
    _ = _ := by
      simp only [execDenyAdd, takeRequest_slot hk, if_neg named, withHlc_lsu, if_neg missing, denyCapacity,
        if_neg (Nat.not_le.mpr room), denyReply_holding, length_denyInsert absent]

end

end

/-- Settles O38: the clauses are the cases of the pass ID, of its place in the list and of the room left. -/
theorem denyListRequests : Obligations.DenyListRequests := by
  intro s k tag pass hk
  refine ⟨?zero, fun named listed => ⟨exec_denyAdd_listed hk tag named listed,
    exec_denyRemove_listed hk tag named listed⟩, fun named absent => ⟨exec_denyRemove_absent hk tag named absent,
    exec_denyAdd_full hk tag named absent, fun room => ?joins⟩, exec_denyClear hk tag⟩
  case zero =>
    rintro rfl
    exact ⟨exec_denyAdd_zero hk tag, exec_denyRemove_zero hk tag⟩
  case joins =>
    refine ⟨_, exec_denyAdd_joins hk tag named absent room, ?frame, rfl, mem_denyInsert_iff.mpr (.inl rfl),
      filter_denyInsert absent, denyInsert_rising⟩
    intro part unnamed
    cases part <;> simp_all [Part.same]

end Sys2Proof.DenyListProofs
end

section
/-! PROOFS. The bounds that every step is to keep: a restart breaks the one on request slots (R190, R205, R207). -/

namespace Sys2Proof.BoundsProofs
open Sys2Proof Sys2Proof.Machine Sys2Proof.Config

/-! ### A restart leaves a settings write in progress as it is -/

section
variable {s : State} {w : SettingsWrite} (writing : s.sps.writing = some w)
include writing

theorem takeJob_writing (job : SettingsJob) : (takeJob job s).sps.writing = some w := by
  simp [takeJob, SpsState.startNext, writing]

theorem readyStamp_writing : (readyStamp s).sps.writing = some w := by
  unfold readyStamp
  split
  · unfold advanceEpoch
    dsimp only
    split
    · exact takeJob_writing (by exact writing) .epoch
    · exact writing
  · exact writing

theorem writeFree_writing (time : Time) (body : JBody) : (writeFree time body s).sps.writing = some w := by
  unfold writeFree
  split
  · unfold appendRecord
    dsimp only
    split <;> simp [readyStamp_writing writing]
  · simpa using writing

theorem endHalt_writing (finish : Time) : (endHalt finish s).sps.writing = some w := by
  unfold endHalt
  split
  · exact writing
  · simp only [settleSpans_frame, stopRecord]
    exact writeFree_writing (by exact writing) _ _

theorem endBackup_writing : (endBackup s).sps.writing = some w := by
  unfold endBackup
  split
  · exact writing
  · simp only [settleSpans_frame, stopRecord]
    exact writeFree_writing (by exact writing) _ _

theorem saveOwedEpoch_writing : (saveOwedEpoch s).sps.writing = some w := by
  unfold saveOwedEpoch
  split
  · exact takeJob_writing (by exact writing) .epoch
  · exact writing

theorem bringUp_writing (cold : Bool) : (bringUp cold s).sps.writing = some w := by
  simpa [bringUp] using writing

theorem restart_writing (cause : RestartCause) : (restart cause s).sps.writing = some w := by
  unfold restart
  exact writeFree_writing (endBackup_writing (endHalt_writing (bringUp_writing
    (saveOwedEpoch_writing (by exact writing)) false) _)) _ _

end

/-- A restart frees every request slot (R201). -/
theorem restart_slots (cause : RestartCause) (s : State) (k : SlotNo) : (restart cause s).hlc.slots.get k = none := by
  cases k <;> simp [restart, bringUp, startBlocks, Slots.get]

/-- The slot of a full save in progress is an owned one (R190, R208). -/
theorem mem_ownedSlots_of_writing {s : State} {w : SettingsWrite} {k : SlotNo} {content : SettingsContent}
    (writing : s.sps.writing = some w) (full : w.job = .full k content) : k ∈ s.ownedSlots := by
  simp [State.ownedSlots, writing, full]

/-- A restart that meets a full save in progress leaves its slot owned and free. -/
theorem not_creditsOk_restart {s : State} {w : SettingsWrite} {k : SlotNo} {content : SettingsContent}
    (writing : s.sps.writing = some w) (full : w.job = .full k content) (cause : RestartCause) :
    ¬ CreditsOk (restart cause s) := by
  rintro ⟨-, -, -, -, -, -, -, occupied, -⟩
  have held := occupied k (mem_ownedSlots_of_writing (restart_writing writing cause) full)
  simp [restart_slots] at held

/-! ### The counterexample -/

/-- The full save of slot 1 in progress, into copy B. -/
def saveOfSlot1 : SettingsWrite where
  job := .full .s1 defaultContent
  copy := .b
  image := { layout := 1, saveCount := 2, content := defaultContent, checkOk := true }
  repeated := false

/-- A part in BACKUP, its lanes OFF, its link and its store port stopped, whose main supply is about to return while the
save of a SETTINGS_SAVE in slot 1 is still in progress. A supply loss breaks such a write off (R207), so the rules do not lead
here from reset; but `CreditsOk` does not say that no write is in progress without the main domain. -/
def savingInBackup : State :=
  { State.reset with
    lanes := Lanes.ofFn (fun _ => Lane.empty .off)
    psc := { State.reset.psc with op := none }
    hlc := { State.reset.hlc with
      running := false, queue := []
      slots := { s1 := some { request := .settingsSave 0, progress := .saving }, s2 := none, s3 := none, s4 := none } }
    sps := { State.reset.sps with supply := .backup, writing := some saveOfSlot1 }
    pending := [.powerReturn] }

theorem savingInBackup_ownedSlots : savingInBackup.ownedSlots = [.s1] := rfl

theorem savingInBackup_grant (n : LaneNo) : (savingInBackup.lane n).grant = none := by cases n <;> rfl

theorem creditsOk_savingInBackup : CreditsOk savingInBackup := by
  refine ⟨by decide, by decide, by decide, by decide, ?grants, ?waiting, ?distinct, ?occupied, ?commits⟩
  case grants => intro n g granted; simp [savingInBackup_grant] at granted
  case waiting => intro on; exact absurd on (by decide)
  case distinct => rw [savingInBackup_ownedSlots]; decide
  case occupied => rw [savingInBackup_ownedSlots]; simp [savingInBackup, Slots.get]
  case commits => intro k looked; exact absurd looked List.not_mem_nil

theorem step_savingInBackup :
    step savingInBackup = .next (restart .powerReturn (savingInBackup.withPending [])) := rfl

/-- Refutes O60: the return of the main supply frees the slots and leaves the save of slot 1 in progress, so that the slot is
owned while it is free, against `CreditsOk`. -/
theorem not_everyStepKeepsTheBounds : ¬ Obligations.EveryStepKeepsTheBounds := by
  intro keeps
  obtain ⟨-, -, -, -, -, -, -, -, credits⟩ := keeps _ _ step_savingInBackup
  exact not_creditsOk_restart (w := saveOfSlot1) rfl rfl .powerReturn (credits creditsOk_savingInBackup)

end Sys2Proof.BoundsProofs
end

section
/-! PROOFS. The stamps of the journal rise under every step (R172): the operations that write a record, the operations that
come to one, and the commands. -/

namespace Sys2Proof.StampsProofs
open Sys2Proof Sys2Proof.Machine Sys2Proof.Config

/-! ### Rising stamps -/

/-- The stamps of a journal's records rise, and the next sequence of the epoch lies above them all (R172). -/
def Rises (records : List JRecord) (epoch seq : Nat) : Prop :=
  records.Pairwise (fun a b => a.stamp.below b.stamp) ∧ ∀ r ∈ records, r.stamp.below { epoch := epoch, seq := seq }

/-- `StampsRise` by the three items of the state that it reads, so that the frames of the operations apply to each. -/
@[simp] abbrev Rising (s : State) : Prop := Rises s.jnl.records s.sps.epoch s.jnl.nextSeq

theorem stampsRise_iff {s : State} : StampsRise s ↔ Rising s := Iff.rfl

theorem rises_nil (epoch seq : Nat) : Rises [] epoch seq := ⟨.nil, nofun⟩

section
variable {records : List JRecord} {epoch seq : Nat} (rises : Rises records epoch seq)
include rises

/-- The first sequence of the next epoch lies above every stamp of this one. -/
theorem Rises.nextEpoch : Rises records (epoch + 1) 1 := by
  obtain ⟨pairs, below⟩ := rises
  refine ⟨pairs, fun r mem => .inl ?_⟩
  rcases below r mem with lower | ⟨same, -⟩
  · exact Nat.lt_succ_of_lt lower
  · exact same ▸ Nat.lt_succ_self _

theorem Rises.append {r : JRecord} (stamp : r.stamp = { epoch := epoch, seq := seq }) :
    Rises (records ++ [r]) epoch (seq + 1) := by
  obtain ⟨pairs, below⟩ := rises
  refine ⟨List.pairwise_append.mpr ⟨pairs, List.pairwise_singleton _ _, fun a mem b last => ?_⟩, fun a mem => ?_⟩
  · rw [List.mem_singleton.mp last, stamp]
    exact below a mem
  · rcases List.mem_append.mp mem with old | last
    · exact (below a old).imp id (And.imp id Nat.lt_succ_of_lt)
    · rw [List.mem_singleton.mp last, stamp]
      exact .inr ⟨rfl, Nat.lt_succ_self _⟩

theorem Rises.sublist {fewer : List JRecord} (sub : fewer.Sublist records) : Rises fewer epoch seq :=
  ⟨rises.1.sublist sub, fun r mem => rises.2 r (sub.subset mem)⟩

end

/-! ### The operations that write a record

Each law of an operation is a simp lemma over `Rising`, so that an operation that only composes others follows from theirs and
from the frames. Of a state that differs outside the three items, `h` says the same by definition. -/

section
variable {s : State} (h : Rising s)
include h

@[simp] theorem advanceEpoch_rising : Rising (advanceEpoch s) := by
  unfold advanceEpoch
  dsimp only
  split <;> simpa using h.nextEpoch

@[simp] theorem readyStamp_rising : Rising (readyStamp s) := by
  unfold readyStamp
  split
  · exact advanceEpoch_rising h
  · exact h

@[simp] theorem appendRecord_rising (time : Time) (body : JBody) : Rising (appendRecord time body s) := by
  have written (r : JRecord) (stamp : r.stamp = (readyStamp s).nextStamp) :
      Rises ((readyStamp s).jnl.records ++ [r]) (readyStamp s).sps.epoch ((readyStamp s).jnl.nextSeq + 1) :=
    (readyStamp_rising h).append stamp
  unfold appendRecord
  dsimp only
  split <;> simpa using written { stamp := (readyStamp s).nextStamp, time := time, body := body } rfl

@[simp] theorem writeReserved_rising (time : Time) (body : JBody) : Rising (writeReserved time body s) :=
  appendRecord_rising (by exact h) time body

@[simp] theorem writeFree_rising (time : Time) (body : JBody) : Rising (writeFree time body s) := by
  unfold writeFree
  split
  · exact appendRecord_rising h time body
  · simpa using h

/-! ### Passages and intrusions -/

@[simp] theorem recordPassage_rising (n : LaneNo) (powerCut : Bool) : Rising (recordPassage n powerCut s) := by
  unfold recordPassage
  dsimp only
  (repeat' split) <;> simp [h]

@[simp] theorem completePassage_rising (n : LaneNo) : Rising (completePassage n s) := by
  simp [completePassage, h]

@[simp] theorem intrusion_rising (n : LaneNo) : Rising (intrusion n s) := by
  simp [intrusion, h]
/-! ### The end of a stop and of a day -/

@[simp] theorem stopRecord_rising (cause : StopCause) (start finish : Time) :
    Rising (stopRecord cause start finish s) := writeFree_rising h _ _

@[simp] theorem endHalt_rising (finish : Time) : Rising (endHalt finish s) := by
  unfold endHalt
  split
  · exact h
  · simp only [Rising, settleSpans_frame]
    exact stopRecord_rising (by exact h) _ _ _

@[simp] theorem endBackup_rising : Rising (endBackup s) := by
  unfold endBackup
  split
  · exact h
  · simp only [Rising, settleSpans_frame]
    exact stopRecord_rising (by exact h) _ _ _

@[simp] theorem pulseEndsHalt_rising : Rising (pulseEndsHalt s) := by
  unfold pulseEndsHalt
  split
  · simp only [Rising, armDetection_frame]
    exact endHalt_rising (by exact h) _
  · exact h

@[simp] theorem changeSource_rising (old new : WindowSource) : Rising (changeSource old new s) := by
  unfold changeSource
  split
  · dsimp only
    split
    · exact endHalt_rising (by simpa using h) _
    · simpa using h
  · simpa using h
  · exact h
  · exact h

@[simp] theorem closeDay_rising : Rising (closeDay s) := by
  simp [closeDay, closeBooks, h]

@[simp] theorem rollover_rising : Rising (rollover s) := by
  unfold rollover
  dsimp only
  split <;> simp [h]

@[simp] theorem advanceClock_rising : Rising (advanceClock s) := by
  unfold advanceClock
  dsimp only
  (repeat' split) <;> simp [h]

@[simp] theorem setClock_rising (day sec : Nat) : Rising (setClock day sec s).2 := by
  unfold setClock
  dsimp only
  (repeat' split) <;> simp [h]

/-! ### The lookups of the services and the loss of a posting -/

@[simp] theorem postingLost_rising (p : Posting) : Rising (postingLost p s) := by
  simp [postingLost, h]

@[simp] theorem loseHead_rising : Rising (loseHead s) := by
  unfold loseHead
  split <;> simp [h]

@[simp] theorem decideCommit_rising (k : SlotNo) (result : LookupResult) : Rising (decideCommit k result s) := by
  unfold decideCommit
  (repeat' split) <;> simp [completeCommit, h]

@[simp] theorem serviceResult_rising (k : SlotNo) (result : LookupResult) : Rising (serviceResult k result s) := by
  unfold serviceResult
  (repeat' split) <;> simp [h]

@[simp] theorem handOver_rising (r : Requester) (result : LookupResult) : Rising (handOver r result s) := by
  cases r <;> simp [handOver, h]

@[simp] theorem completeLookup_rising (l : Lookup) : Rising (completeLookup l s) := by
  simp [completeLookup, h]

@[simp] theorem serviceLookup_rising (k : SlotNo) (pass : Nat) (occupancy : Bool) :
    Rising (serviceLookup k pass occupancy s) := by
  unfold serviceLookup
  dsimp only
  split <;> simp [h]

@[simp] theorem installLookup_rising (k : SlotNo) (classified : Status) (pass : Nat) :
    Rising (installLookup k classified pass s) := by
  unfold installLookup
  dsimp only
  split <;> simp [h]

@[simp] theorem installRecord_rising (k : SlotNo) (classified : Status) (raw : RawRecord) :
    Rising (installRecord k classified raw s) := by
  unfold installRecord
  split <;> simp [h]

@[simp] theorem takeUpdate_rising (k : SlotNo) (pass : Nat) (occupancy : Bool) :
    Rising (takeUpdate k pass occupancy s) := by
  unfold takeUpdate
  split <;> simp [h]

@[simp] theorem failLookups_rising (ls : List Lookup) : Rising (failLookups ls s) := by
  induction ls generalizing s with
  | nil => exact h
  | cons l ls ih => exact ih (handOver_rising h l.requester .error)

@[simp] theorem failQueued_rising : Rising (failQueued s) :=
  failLookups_rising (by exact h) _

@[simp] theorem mountFails_rising : Rising (mountFails s) := by
  simp [mountFails, h]

@[simp] theorem secondFailure_rising (op : StoreOp) : Rising (secondFailure op s) := by
  cases op <;> simp [secondFailure, h]

@[simp] theorem failOperation_rising : Rising (failOperation s) := by
  unfold failOperation
  split
  · exact h
  · dsimp only
    split <;> simp [h]

/-! ### Supply losses and restarts -/

@[simp] theorem settleLane_rising (n : LaneNo) : Rising (settleLane n s) := by
  unfold settleLane
  split <;> simp [h]

@[simp] theorem settleLanes_rising (ns : List LaneNo) : Rising (settleLanes ns s) := by
  induction ns generalizing s with
  | nil => exact h
  | cons n ns ih => exact ih (settleLane_rising h n)

@[simp] theorem settleWork_rising : Rising (settleWork s) := by
  simp [settleWork, h]

@[simp] theorem haltLost_rising : Rising (haltLost s) := by
  unfold haltLost
  split
  · exact endHalt_rising (by exact h) _
  · exact h

@[simp] theorem loseSupply_rising : Rising (loseSupply s) := by
  unfold loseSupply
  refine writeFree_rising ?_ _ _
  split
  · simpa using h
  · exact haltLost_rising (settleWork_rising (by simpa using h))

@[simp] theorem restart_rising (cause : RestartCause) : Rising (restart cause s) := by
  have up : Rising (bringUp false (saveOwedEpoch (s.withSps
      { s.sps with cause := cause, supply := .main, resetHeld := false }))) := by simpa using h
  exact writeFree_rising (endBackup_rising (endHalt_rising up _)) _ _

@[simp] theorem messageRestart_rising : Rising (messageRestart s) := by
  unfold messageRestart
  exact restart_rising (settleWork_rising (by exact h)) _

omit h in
/-- A cold start clears the journal, so that any epoch and any sequence lie above it (R206). -/
@[simp] theorem coldStarted_rising (epochSaved defaultSaved : Bool) (s : State) :
    Rising (coldStarted epochSaved defaultSaved s) := by
  unfold coldStarted
  dsimp only
  split <;> simp [clearRetained, rises_nil]

/-! ### Accepted changes of the inputs -/

@[simp] theorem atChange_rising (n : LaneNo) (time : Nat) : Rising (atChange n time s) := by
  simpa [atChange] using h

@[simp] theorem rotate_rising (n : LaneNo) : Rising (rotate n s) := by
  unfold rotate
  dsimp only
  (repeat' split) <;> simp [h]

@[simp] theorem chairArrives_rising : Rising (chairArrives s) := by
  unfold chairArrives
  dsimp only
  split
  · exact h
  · have opened : Rising (openWindow (pulseEndsHalt (s.withSm { s.sm with lastPulse := some s.now }))) := by
      simp only [Rising, openWindow_frame]
      exact pulseEndsHalt_rising (by exact h)
    split
    · simpa using opened
    · exact opened

end

/-! ### The commands -/

/-- A command that answers a next state leaves the stamps rising. -/
def Keeps (command : State → Result) : Prop := ∀ s, Rising s → ∀ t, command s = .next t → Rising t

theorem keeps_next {f : State → State} (keeps : ∀ s, Rising s → Rising (f s)) : Keeps (fun s => .next (f s)) := by
  rintro s h - ⟨⟩
  exact keeps s h

/-- A request keeps the stamps rising where its owner does; one that finds no slot is answered at once (R189). -/
theorem keeps_request {i : Instr} {owner : SlotNo → State → State}
    (keeps : ∀ k s, Rising s → Rising (owner k s)) : Keeps (fun s => .next (takeRequest i owner s)) := by
  refine keeps_next fun s h => ?_
  unfold takeRequest
  split
  · dsimp only
    split
    · simpa using h
    · exact keeps _ _ (by exact h)
  · exact h

/-! ### The commands whose work takes a step of its own -/

/-- The records that a JOURNAL_RELEASE leaves are the tail of the journal (R178). -/
theorem journalRelease_keeps (tag epoch seq : Nat) : Keeps (execJournalRelease tag epoch seq) :=
  keeps_request fun k s h => by
    have released : Rises (s.jnl.records.dropWhile fun r => r.stamp.atOrBelow { epoch := epoch, seq := seq })
        s.sps.epoch s.jnl.nextSeq := h.sublist (List.dropWhile_sublist _)
    dsimp only
    (repeat' split) <;> simp [h, released]

theorem holdEnd_keeps (tag : Nat) : Keeps (execHoldEnd tag) :=
  keeps_request fun k s h => by
    split
    · simpa using h
    · simp only [Rising, reply_frame, settleSpans_frame]
      exact stopRecord_rising (by exact h) _ _ _

theorem bankConfig_keeps (tag : Nat) (patch : BankPatch) : Keeps (execBankConfig tag patch) :=
  keeps_request fun k s h => by
    split
    · simpa using h
    · simp only [Rising, reply_frame]
      exact changeSource_rising (by simpa [SpsState.withBank] using h) _ _

theorem commitCredits_rising {s t : State} (h : Rising s) (granted : commitCredits s = some t) : Rising t := by
  unfold commitCredits at granted
  split at granted <;> cases granted
  simpa using h

theorem refundCommit_keeps (tag pass amount : Nat) : Keeps (execRefundCommit tag pass amount) :=
  keeps_request fun k s h => by
    dsimp only
    repeat' split
    case h_2 credited granted =>
      have claimed : Rising credited := commitCredits_rising h granted
      simp only [Rising, selectNext_frame]
      exact serviceLookup_rising (by simpa using claimed) _ _ _
    all_goals simpa using h

theorem denyReply_rising {s : State} (h : Rising s) (k : SlotNo) (st : Status) : Rising (denyReply k st s) := by
  simpa [denyReply] using h

theorem denyAdd_keeps (tag pass : Nat) : Keeps (execDenyAdd tag pass) :=
  keeps_request fun k s h => by
    (repeat' split) <;> exact denyReply_rising (by exact h) _ _

theorem denyRemove_keeps (tag pass : Nat) : Keeps (execDenyRemove tag pass) :=
  keeps_request fun k s h => by
    (repeat' split) <;> exact denyReply_rising (by exact h) _ _

theorem resetAssert_keeps : Keeps execResetAssert :=
  keeps_next fun s h => by
    split
    · exact settleWork_rising (by exact h)
    · exact h

/-- Every command keeps the stamps rising: by the laws above where an operation of its work may write a record, and by the
frames of its operations elsewhere. -/
theorem exec_keeps (i : Instr) : Keeps (exec i) := by
  cases i with
  | journalRelease tag epoch seq => exact journalRelease_keeps tag epoch seq
  | holdEnd tag => exact holdEnd_keeps tag
  | bankConfig tag patch => exact bankConfig_keeps tag patch
  | refundCommit tag pass amount => exact refundCommit_keeps tag pass amount
  | denyAdd tag pass => exact denyAdd_keeps tag pass
  | denyRemove tag pass => exact denyRemove_keeps tag pass
  | resetAssert => exact resetAssert_keeps
  | ident | status | flagsTake | restart | closureGet | denyClear | journalRead | countsClear =>
    exact keeps_request fun k s h => by simp [h]
  | noticeLevels | settingsSave | productPut | productGet | laneMode | timeSet | scheduleSet | holdBegin
  | closureNote | storeRecover | storeFormat | linkState | refundQuote | passPut | passMerge
  | passStatus | passDrop | passRead | countsGet =>
    exact keeps_request fun k s h => by (repeat' split) <;> simp [h]
  | inquiryAnswer =>
    exact keeps_request fun k s h => by
      dsimp only
      (repeat' split) <;> simp [h]
  | dispatchRefusal | image | readFail | feFrameDiscarded | entryBeamBreak | exitBeamBreak | exitBeamClear
  | rotationPulse =>
    exact keeps_next fun s h => by
      dsimp only
      (repeat' split) <;> simp [h]
  | _ => exact keeps_next fun s h => by (repeat' split) <;> simp [h]

theorem step_keeps : Keeps step := by
  intro s h t stepped
  unfold step at stepped
  split at stepped
  · cases stepped
    unfold idle
    split <;> exact h
  · exact exec_keeps _ _ (by exact h) t stepped

/-- Settles O59: every command keeps the stamps rising, and so does the idle step of an empty queue. -/
theorem everyStepKeepsStampsRising : Obligations.EveryStepKeepsStampsRising :=
  fun s t rising stepped => stampsRise_iff.mpr (step_keeps s (stampsRise_iff.mp rising) t stepped)

end Sys2Proof.StampsProofs
end

section
/-! PROOFS. Stamps, the epoch advance and unreserved records (R172, R175, R176); JOURNAL_READ and JOURNAL_RELEASE (R177,
R178). -/

namespace Sys2Proof.JournalProofs
open Sys2Proof Sys2Proof.Machine Sys2Proof.Config Sys2Proof.InquiryProofs

/-! ### The stamp of the next record (R172) -/

section
variable {s : State}

theorem readyStamp_of_sequence (left : s.jnl.nextSeq ≤ 4294967295) : readyStamp s = s := by
  simp [readyStamp, max32, Nat.not_lt.mpr left]

theorem readyStamp_of_lastEpoch (last : s.sps.epoch = 65535) : readyStamp s = s := by
  simp [readyStamp, max16, last]

theorem advanceEpoch_jnl (s : State) : (advanceEpoch s).jnl = { s.jnl with nextSeq := 1 } := by
  unfold advanceEpoch
  dsimp only
  split <;> simp

theorem advanceEpoch_epoch (s : State) : (advanceEpoch s).sps.epoch = s.sps.epoch + 1 := by
  unfold advanceEpoch
  dsimp only
  split <;> simp

/-- An epoch advance changes the next sequence and the settings store alone. -/
theorem advanceEpoch_onlyChanges (s : State) : OnlyChanges [.jnl, .sps] s (advanceEpoch s) := by
  intro part unnamed
  cases part <;> simp_all [Part.same]

theorem advanceEpoch_owed (off : mainOn s = false) :
    (advanceEpoch s).sps = { s.sps with epoch := s.sps.epoch + 1, epochOwed := true } := by
  have still : mainOn ((s.withSps { s.sps with epoch := s.sps.epoch + 1 }).withJnl { s.jnl with nextSeq := 1 }) =
      false := off
  simp [advanceEpoch, still]

theorem advanceEpoch_saved (on : mainOn s = true) : (advanceEpoch s).sps =
    { s.sps with epoch := s.sps.epoch + 1, queued := s.sps.queued ++ [SettingsJob.epoch] }.startNext := by
  have still : mainOn ((s.withSps { s.sps with epoch := s.sps.epoch + 1 }).withJnl { s.jnl with nextSeq := 1 }) =
      true := on
  simp [advanceEpoch, still, takeJob]

section
variable (spent : 4294967295 < s.jnl.nextSeq)
include spent

theorem readyStamp_of_spent (later : s.sps.epoch < 65535) : readyStamp s = advanceEpoch s := by
  simp [readyStamp, max32, max16, spent, later]

/-- Past the last sequence of the last epoch no claim and no unreserved record is allowed. -/
theorem sequencesAllow_of_lastEpoch (last : s.sps.epoch = 65535) : sequencesAllow s = false := by
  have left : sequencesLeft s = 0 := Nat.sub_eq_zero_of_le spent
  simp [sequencesAllow, left, last, max16]

end

/-! ### Unreserved records (R175, R176) -/

/-- The journal with one more record, under the next stamp. -/
def recorded (time : Time) (body : JBody) (s : State) : State :=
  s.withJnl { s.jnl with records := s.jnl.records ++ [{ stamp := s.nextStamp, time := time, body := body }]
                         nextSeq := s.jnl.nextSeq + 1 }

theorem appendRecord_of_sequence (left : s.jnl.nextSeq ≤ 4294967295) (time : Time) (body : JBody) :
    appendRecord time body s =
      if s.jnl.records.length + 1 = 896 then raise .journalHigh (recorded time body s) else recorded time body s := by
  simp [appendRecord, readyStamp_of_sequence left, recorded, journalHigh]

theorem recordFree_iff : recordFree s = true ↔ s.jnl.records.length + s.jnl.credits < 1024 ∧
    (s.sps.epoch < 65535 ∨ s.jnl.credits < 4294967296 - s.jnl.nextSeq) := by
  simp only [recordFree, sequencesAllow, Bool.and_eq_true, Bool.or_eq_true, decide_eq_true_eq]
  rfl

theorem raise_flag (cls : EventClass) (s : State) : (raise cls s).hlc.flags.getD cls.code false = true := by
  rw [raise, raiseBy_flags]
  exact flag_raised cls _

/-- An unreserved record changes the journal and the host link alone, while a sequence is left (R175, R176). -/
theorem writeFree_onlyChanges (left : s.jnl.nextSeq ≤ 4294967295) (time : Time) (body : JBody) :
    OnlyChanges [.jnl, .hlc] s (writeFree time body s) := by
  have sps : (writeFree time body s).sps = s.sps := by
    unfold writeFree
    split
    · rw [appendRecord_of_sequence left]
      split <;> simp [recorded]
    · simp
  intro part unnamed
  cases part <;> simp_all [Part.same]

/-- A free record joins the tail, and raises JOURNAL_HIGH as the 896th alone. -/
theorem writeFree_written (left : s.jnl.nextSeq ≤ 4294967295) (free : recordFree s = true) (time : Time)
    (body : JBody) : (writeFree time body s).jnl = (recorded time body s).jnl ∧
      (s.jnl.records.length + 1 = 896 →
        (writeFree time body s).hlc.flags.getD EventClass.journalHigh.code false = true) ∧
      (s.jnl.records.length + 1 ≠ 896 → (writeFree time body s).hlc = s.hlc) := by
  rw [writeFree, if_pos free, appendRecord_of_sequence left]
  split
  next high => exact ⟨by simp, fun _ => raise_flag _ _, absurd high⟩
  next other => exact ⟨rfl, fun high => absurd high other, fun _ => rfl⟩

/-- The journal with the records dropped counted once more. -/
theorem writeFree_dropped_jnl (full : recordFree s = false) (time : Time) (body : JBody) :
    (writeFree time body s).jnl = { s.jnl with cumulative :=
      { s.jnl.cumulative with dropped := addSat s.jnl.cumulative.dropped 1 } } ∧
      (writeFree time body s).hlc.flags.getD EventClass.journalFull.code false = true := by
  rw [writeFree, if_neg (by simp [full])]
  exact ⟨by simp [countCumulative], raise_flag _ _⟩

end

/-- Settles O39: the clauses are the cases of the next sequence and of the epoch, and of a free position or none. -/
theorem recordsTakeStampsAndPlaces : Obligations.RecordsTakeStampsAndPlaces := by
  refine ⟨fun s => ⟨readyStamp_of_sequence, fun spent later => ?advance, fun spent last => ?last⟩,
    fun s time body left => ?unreserved⟩
  case advance =>
    rw [readyStamp_of_spent spent later]
    refine ⟨by simp [State.nextStamp, advanceEpoch_jnl, advanceEpoch_epoch], advanceEpoch_onlyChanges s,
      advanceEpoch_jnl s, advanceEpoch_owed, fun on idle unqueued => ?_, fun on busy => ?_⟩
    · rw [advanceEpoch_saved on]
      simp [SpsState.startNext, SpsState.begin, idle, unqueued]
    · obtain ⟨w, writing⟩ := Option.isSome_iff_exists.mp busy
      rw [advanceEpoch_saved on]
      simp [SpsState.startNext, writing]
  case last =>
    have refused := sequencesAllow_of_lastEpoch spent last
    exact ⟨readyStamp_of_lastEpoch last, by simp [recordFree, refused], by simp [journalGrants, refused]⟩
  case unreserved =>
    intro free t
    have frame := writeFree_onlyChanges left time body
    by_cases room : recordFree s = true
    · obtain ⟨jnl, high, other⟩ := writeFree_written left room time body
      exact ⟨frame, by rw [jnl]; rfl, by rw [jnl]; rfl, by rw [jnl]; rfl,
        fun _ => ⟨by rw [jnl]; rfl, by rw [jnl]; rfl, by rw [jnl]; rfl, high, other⟩,
        fun full => absurd (recordFree_iff.mp room) full⟩
    · obtain ⟨jnl, raised⟩ := writeFree_dropped_jnl (by simpa using room) time body
      exact ⟨frame, by rw [jnl], by rw [jnl], by rw [jnl], fun open_ => absurd (recordFree_iff.mpr open_) room,
        fun _ => ⟨jnl, raised⟩⟩

/-! ### JOURNAL_READ (R177) -/

/-- The bytes that records take in the body of a reply. -/
def recordBytes (rs : List JRecord) : Nat := (rs.map (fun r => r.bytes.length)).sum

/-- A JOURNAL_READ reply carries the longest run of records from the head that its count and its room allow. -/
theorem recordsFitting_longest (n room : Nat) (rs : List JRecord) :
    (recordsFitting n room rs).length ≤ n ∧ recordBytes (recordsFitting n room rs) ≤ room ∧
      ∃ rest, rs = recordsFitting n room rs ++ rest ∧ ∀ r after, rest = r :: after →
        (recordsFitting n room rs).length = n ∨ room < recordBytes (recordsFitting n room rs ++ [r]) := by
  induction n generalizing room rs with
  | zero => exact ⟨by simp [recordsFitting], by simp [recordsFitting, recordBytes], rs, by simp [recordsFitting]⟩
  | succ n ih =>
    cases rs with
    | nil => exact ⟨by simp [recordsFitting], by simp [recordsFitting, recordBytes], [], by simp [recordsFitting]⟩
    | cons x xs =>
      unfold recordsFitting
      split
      next fits =>
        obtain ⟨count, size, rest, whole, limit⟩ := ih (room - x.bytes.length) xs
        refine ⟨by simpa using count, ?_, rest, by rw [List.cons_append, ← whole], fun r after cut => ?_⟩
        · simp only [recordBytes, List.map_cons, List.sum_cons] at size ⊢
          omega
        · refine (limit r after cut).imp (by simp) fun excess => ?_
          simp only [recordBytes, List.cons_append, List.map_cons, List.sum_cons] at excess ⊢
          omega
      next excess =>
        refine ⟨by simp, by simp [recordBytes], x :: xs, rfl, ?_⟩
        rintro r after ⟨⟩
        exact .inr (by simpa [recordBytes] using excess)

theorem countWithin_eq (count : Nat) :
    countWithin 8 count = if count = 0 then 1 else if 8 < count then 8 else count := by
  unfold countWithin
  (repeat' split) <;> omega

theorem exec_journalRead {s : State} {k : SlotNo} (hk : SlotFor s k) (tag count : Nat) :
    exec (.journalRead tag count) s = .next (s.withHlc (s.hlc.answered (.journalRead tag count) k
      (.journal (recordsFitting (countWithin 8 count) 236 s.jnl.records) s.jnl.records.length))) := by
  calc exec (.journalRead tag count) s = execJournalRead tag count s := rfl
    _ = _ := by rw [execJournalRead, takeRequest_slot hk, reply_holding]; rfl

/-! ### JOURNAL_RELEASE (R178) -/

/-- A stamp is at or below a given one: of an earlier epoch, or of its epoch at or below its sequence. -/
theorem atOrBelow_iff {a b : Stamp} :
    a.atOrBelow b = true ↔ a.epoch < b.epoch ∨ (a.epoch = b.epoch ∧ a.seq ≤ b.seq) := by
  simp [Stamp.atOrBelow]

theorem not_atOrBelow_iff {a b : Stamp} :
    ¬ a.atOrBelow b = true ↔ b.epoch < a.epoch ∨ (a.epoch = b.epoch ∧ b.seq < a.seq) := by
  rw [atOrBelow_iff]
  omega

section
variable {s : State} {k : SlotNo} (hk : SlotFor s k) (tag : Nat) {epoch seq : Nat}
include hk

theorem exec_journalRelease_badField (bad : epoch = 0 ∨ seq = 0) : exec (.journalRelease tag epoch seq) s =
    .next (s.withHlc (s.hlc.answered (.journalRelease tag epoch seq) k (.status .badField))) := by
  calc exec (.journalRelease tag epoch seq) s = execJournalRelease tag epoch seq s := rfl
    _ = _ := by rw [execJournalRelease, takeRequest_slot hk, if_pos bad, refuse_holding]

variable (good : ¬ (epoch = 0 ∨ seq = 0))
include good

theorem exec_journalRelease_stale (ahead : s.sps.epoch < epoch) : exec (.journalRelease tag epoch seq) s =
    .next (s.withHlc (s.hlc.answered (.journalRelease tag epoch seq) k (.status .stale))) := by
  calc exec (.journalRelease tag epoch seq) s = execJournalRelease tag epoch seq s := rfl
    _ = _ := by
      rw [execJournalRelease, takeRequest_slot hk, if_neg good, withHlc_sps, if_pos ahead, refuse_holding]

/-- The records of a release: those it removes, from the head, and those it keeps. -/
theorem exec_journalRelease_released (known : epoch ≤ s.sps.epoch) {removed kept : List JRecord}
    (removes : removed = s.jnl.records.takeWhile (fun r => r.stamp.atOrBelow { epoch := epoch, seq := seq }))
    (keeps : kept = s.jnl.records.dropWhile (fun r => r.stamp.atOrBelow { epoch := epoch, seq := seq })) :
    let u := (s.withJnl { s.jnl with records := kept }).withHlc
      (s.hlc.answered (.journalRelease tag epoch seq) k (.released removed.length kept.length))
    exec (.journalRelease tag epoch seq) s = .next (if removed = [] then u else u.granting) := by
  intro u
  have whole : s.jnl.records = removed ++ kept := by rw [removes, keeps, List.takeWhile_append_dropWhile]
  have count : s.jnl.records.length - kept.length = removed.length := by simp [whole]
  have replied : reply k (.released removed.length kept.length)
      ((s.withHlc (s.hlc.holding (.journalRelease tag epoch seq) k .taken)).withJnl { s.jnl with records := kept }) =
      u := reply_of_hlc_holding rfl _
  calc exec (.journalRelease tag epoch seq) s = execJournalRelease tag epoch seq s := rfl
    _ = .next (if removed.length = 0 then u else grantPass u) := by
      rw [execJournalRelease, takeRequest_slot hk, if_neg good, withHlc_sps, if_neg (Nat.not_lt.mpr known)]
      simp only [withHlc_jnl, ← keeps, count, replied]
    _ = _ := by simp only [List.length_eq_zero_iff, granting_eq]

end

/-- Settles O40: a read shows the longest run that fits, and a release removes the records up to the first whose stamp lies
above the given one. -/
theorem journalIsReadAndReleased : Obligations.JournalIsReadAndReleased := by
  refine ⟨fun s k tag count hk => ?read, fun s k tag epoch seq hk => ⟨exec_journalRelease_badField hk tag,
    fun e q => exec_journalRelease_stale hk tag (not_or.mpr ⟨e, q⟩), fun e q known => ?release⟩⟩
  case read =>
    obtain ⟨length, size, rest, whole, limit⟩ := recordsFitting_longest (countWithin 8 count) 236 s.jnl.records
    have read := exec_journalRead hk tag count
    rw [countWithin_eq] at length size whole limit read
    exact ⟨_, rest, whole, length, size, limit, read⟩
  case release =>
    refine ⟨_, _, (List.takeWhile_append_dropWhile ..).symm, fun r mem => ?_, fun r rs head => ?_,
      exec_journalRelease_released hk tag (not_or.mpr ⟨e, q⟩) known rfl rfl⟩
    · have removed := List.all_eq_true.mp List.all_takeWhile r mem
      exact atOrBelow_iff.mp removed
    · have first := List.head?_dropWhile_not (fun x : JRecord => x.stamp.atOrBelow { epoch := epoch, seq := seq })
        s.jnl.records
      rw [head] at first
      exact not_atOrBelow_iff.mp (by simpa using first)

end Sys2Proof.JournalProofs
end

section
/-! PROOFS. COUNTS_GET and COUNTS_CLEAR (R184, R185). -/

namespace Sys2Proof.CountsProofs
open Sys2Proof Sys2Proof.Machine Sys2Proof.Config Sys2Proof.InquiryProofs

theorem laneOf_laneNumber (n : LaneNo) : laneOf (laneNumber n) = some n := by
  cases n <;> rfl

theorem laneOf_eq_none {lane : Nat} (outside : lane = 0 ∨ 6 < lane) : laneOf lane = none := by
  unfold laneOf
  split
  any_goals omega
  rfl

section
variable {s : State} {k : SlotNo} (hk : SlotFor s k) (tag : Nat)
include hk

theorem exec_countsGet_badField {scope lane : Nat} (bad : 3 ≤ scope ∨ (scope = 0 ∧ (lane = 0 ∨ 6 < lane))) :
    exec (.countsGet tag scope lane) s =
      .next (s.withHlc (s.hlc.answered (.countsGet tag scope lane) k (.status .badField))) := by
  calc exec (.countsGet tag scope lane) s = execCountsGet tag scope lane s := rfl
    _ = _ := by
      rw [execCountsGet, takeRequest_slot hk]
      rcases bad with beyond | ⟨rfl, outside⟩
      · split
        any_goals omega
        rw [refuse_holding]
      · simp only [laneOf_eq_none outside, refuse_holding]

theorem exec_countsGet_lane (n : LaneNo) : exec (.countsGet tag 0 (laneNumber n)) s =
    .next (s.withHlc (s.hlc.answered (.countsGet tag 0 (laneNumber n)) k (.laneCounts s.now (s.jnl.lanes.get n)))) := by
  calc exec (.countsGet tag 0 (laneNumber n)) s = execCountsGet tag 0 (laneNumber n) s := rfl
    _ = _ := by
      rw [execCountsGet, takeRequest_slot hk]
      simp only [laneOf_laneNumber, reply_holding]
      rfl

theorem exec_countsGet_day (lane : Nat) : exec (.countsGet tag 1 lane) s =
    .next (s.withHlc (s.hlc.answered (.countsGet tag 1 lane) k (.dayCounts s.now s.jnl.day))) := by
  calc exec (.countsGet tag 1 lane) s = execCountsGet tag 1 lane s := rfl
    _ = _ := by
      rw [execCountsGet, takeRequest_slot hk]
      simp only [reply_holding]
      rfl

theorem exec_countsGet_cumulative (lane : Nat) : exec (.countsGet tag 2 lane) s =
    .next (s.withHlc (s.hlc.answered (.countsGet tag 2 lane) k (.cumulative s.now s.jnl.cumulative))) := by
  calc exec (.countsGet tag 2 lane) s = execCountsGet tag 2 lane s := rfl
    _ = _ := by
      rw [execCountsGet, takeRequest_slot hk]
      simp only [reply_holding]
      rfl

theorem exec_countsClear : exec (.countsClear tag) s =
    .next ((s.withJnl { s.jnl with
      lanes := Lanes.ofFn fun _ => LaneCounters.zero, cumulative := Cumulative.zero }).withHlc
        (s.hlc.answered (.countsClear tag) k (.status .ok))) := by
  calc exec (.countsClear tag) s = execCountsClear tag s := rfl
    _ = _ := by rw [execCountsClear, takeRequest_slot hk, reply_of_hlc_holding rfl]; rfl

end

/-- Settles O41: the clauses are the scopes, and the parts that a clear leaves. -/
theorem countsAreReadAndCleared : Obligations.CountsAreReadAndCleared := by
  refine ⟨fun s k tag scope lane hk => ⟨exec_countsGet_badField hk tag, ?lane, ?day, ?cumulative⟩,
    fun s k tag hk => ⟨_, exec_countsClear hk tag, ?frame, rfl, fun n => lanes_get_ofFn _ n, rfl⟩⟩
  case lane => rintro n rfl rfl; exact exec_countsGet_lane hk tag n
  case day => rintro rfl; exact exec_countsGet_day hk tag lane
  case cumulative => rintro rfl; exact exec_countsGet_cumulative hk tag lane
  case frame =>
    intro part unnamed
    cases part <;> simp_all [Part.same]

end Sys2Proof.CountsProofs
end
